-- ==== Sys2Proof/Word.lean ====
section
/-! DEFINITION. The word types of the 6502 family: bytes, 16-bit words, 24-bit full addresses (spec rules R8 to R10,
R61), and the two operand widths of the 65816 (R31, R32). -/

namespace Sys2Proof

/-- 8 bits: the addressable unit (R60). -/
abbrev Byte := BitVec 8

/-- 16 bits: X, Y, S, D, PC, C and the offset part of an address (R10). -/
abbrev Word := BitVec 16

/-- A full address `bb:aaaa`: bank in bits 23 to 16, offset in bits 15 to 0 (R61). On the 8-bit variants the bank is 0. -/
abbrev Addr := BitVec 24

/-- The two operand widths: data width `mw` (R31) and index width `xw` (R32) each take one of them. -/
inductive Width where
  | w8
  | w16
deriving DecidableEq, Repr

/-- How many bits a width has. -/
abbrev Width.bits : Width → Nat
  | .w8 => 8
  | .w16 => 16

/-- How many bytes a width has. -/
abbrev Width.bytes : Width → Nat
  | .w8 => 1
  | .w16 => 2

/-- The pair of widths that decoding depends on (R93, R100): `m` is `mw`, `x` is `xw`. -/
structure Widths where
  m : Width
  x : Width
deriving DecidableEq, Repr

end Sys2Proof
end

