-- ==== Sys2Proof/Config.lean ====
section
/-! DEFINITION. What is fixed for one machine: the implementation parameters of spec rule R6, with their defaults, and the
free values, which nothing in Lean can evaluate (logs 5, 7, 15). -/

namespace Sys2Proof

/-- `VARIANT` (R2). The 65802 is `v65816`, the 6510 is `v6502`. -/
inductive Variant where
  | v6502
  | v65C02
  | v65816
deriving DecidableEq, Repr

/-- `LDX_INDEX` (R6, R272): the index register of opcodes BE and B6. -/
inductive LdxIndex where
  | x
  | y
  | refuse
deriving DecidableEq, Repr

/-- `MVN_OPERAND_ORDER` (R6, R360): which operand byte of MVN and MVP is the source bank. -/
inductive MvnOrder where
  | srcFirst
  | dstFirst
deriving DecidableEq, Repr

/-- `JMP_IND_FF` (R6, R141): V6502 `JMP (addr)` with the low byte of `addr` equal to 0xFF. -/
inductive JmpIndFF where
  | fault
  | pageWrap
deriving DecidableEq, Repr

/-- A range of full addresses, both ends included. -/
structure Region where
  first : Nat
  last : Nat
deriving DecidableEq, Repr

/-- The parameters of rule R6. They are held in the state as a record that no step writes, so that one model covers every
value of every parameter (log 1). `HALT_CONDITION` is the argument of `runUntil` in Safety.lean. -/
structure Params where
  /-- `VARIANT` (R2). -/
  variant : Variant
  /-- `LDX_INDEX` (R272). -/
  ldxIndex : LdxIndex
  /-- `MVN_OPERAND_ORDER` (R360). -/
  mvnOrder : MvnOrder
  /-- `JMP_IND_FF` (R141). -/
  jmpIndFF : JmpIndFF
  /-- `SO_CONNECTED` (R254). -/
  soConnected : Bool
  /-- `ABORT_MODELLED` (R389). -/
  abortModelled : Bool
  /-- `VEC_RESET` (R384, R422). -/
  vecReset : Word
  /-- `VEC_NMI_E` (R384). -/
  vecNmiE : Word
  /-- `VEC_NMI_N` (R384). -/
  vecNmiN : Word
  /-- `VEC_ABORT_E` (R384). -/
  vecAbortE : Word
  /-- `VEC_ABORT_N` (R384). -/
  vecAbortN : Word
  /-- `VEC_IRQ_N` (R384). -/
  vecIrqN : Word
  /-- `IO_REGIONS` (R62, R63). -/
  ioRegions : List Region
  /-- Where `Writable` is false (R63). -/
  romRegions : List Region
deriving DecidableEq, Repr

/-- The defaults of R6 and R384 for a given variant. -/
def Params.defaults (v : Variant) : Params where
  variant := v
  ldxIndex := .x
  mvnOrder := .srcFirst
  jmpIndFF := .fault
  soConnected := false
  abortModelled := false
  vecReset := 0xFFFC#16
  vecNmiE := 0xFFFA#16
  vecNmiN := 0xFFEA#16
  vecAbortE := 0xFFF8#16
  vecAbortN := 0xFFE8#16
  vecIrqN := 0xFFEE#16
  ioRegions := []
  romRegions := []

/-- FREE VALUE: one unconstrained flag for each draw: v, and on V6502 n and z, after a decimal ADC or SBC (R162, R164), and
the flags that a reset leaves unspecified (R421). Logs 5, 7. -/
opaque Config.freeFlag : Nat → Bool

/-- FREE VALUE: one unconstrained byte for each draw: the register bytes that a reset leaves unspecified (R421). Log 5. -/
opaque Config.freeByte : Nat → BitVec 8

/-- FREE VALUE: the byte the host supplies at a read of `IO_REGIONS` (R62). Log 15. -/
opaque Config.ioValue : Nat → BitVec 8

end Sys2Proof
end

