-- ==== Sys2Proof/Machine/State.lean ====
section
/-! DEFINITION. The state of the machine (spec file 10_state.md), the outcomes of a step that are not a next state (rule
R12), and the machine right after reset (R421). -/

namespace Sys2Proof.Machine

/-- The hardware raises no synchronous exception and has no fault of any kind (R380): this type has no value, so no step
can end in a fault (log 24). -/
inductive Fault where
deriving DecidableEq, Repr

/-- The model outcomes of R12 that are not hardware behaviour: "refusals, never values". All are safe: they err toward
unprovable. -/
inductive Refusal where
  /-- An instruction with no meaning yet; raised by exec's refused arms only. Safe. -/
  | notModelled (mnemonic : String)
  /-- `raise IllegalOpcode(byte)` (R97): the opcode byte is not available on `VARIANT`; raised by the fetch of a step. Safe. -/
  | illegalOpcode (byte : BitVec 8)
  /-- R162: the accumulator or the operand of a decimal ADC has a digit above 9; raised by ADC. Safe. -/
  | adcNotBcd
  /-- R164: the accumulator or the operand of a decimal SBC has a digit above 9; raised by SBC. Safe. -/
  | sbcNotBcd
  /-- R74: one of PEA, PEI, PER, PHD, PLD, PLB, JSL, RTL, JSR (addr,X) would wrap in page 1 with e = 1; raised by them. Safe. -/
  | stackWrapsPage1
  /-- R149: `DPLocNew` crosses the page end with e = 1 and DL = 0; raised by [dp], [dp],Y and PEI. Safe. -/
  | directPageNewModeCrossesPage
  /-- R149: the pointer of (dp,X) crosses a page with e = 1 and DL nonzero on V65816; raised by (dp,X). Safe. -/
  | directPagePointerCrossesPage
  /-- R141: V6502 JMP (addr) with low byte 0xFF under `JMP_IND_FF = FAULT`; raised by JMP (addr). Safe. -/
  | jmpIndirectLowByteFF
  /-- R272: `LDX_INDEX = REFUSE`; raised by opcodes BE and B6. Safe. -/
  | ldxIndexInDoubt
  /-- R85: an instruction byte would be fetched from `IO_REGIONS`; raised by the fetch of a step. Safe. -/
  | fetchFromIo
  /-- R389: ABORT asserted while `ABORT_MODELLED`; the spec gives no entry sequence; raised by the sampling of a step. Safe. -/
  | abortEntryNotGiven
deriving DecidableEq, Repr

/-- The run state (R45). -/
inductive RunState where
  | running
  | waiting
  | stopped
deriving DecidableEq, Repr

/-- One access of `IO_REGIONS`, as the host sees it (R62, R63, R69). -/
inductive IoEvent where
  | read (addr : BitVec 24) (value : BitVec 8)
  | write (addr : BitVec 24) (value : BitVec 8)
deriving DecidableEq, Repr

/-- Memory as a list of (address, byte), addresses strictly rising, no entry equal to what an unlisted address reads as
(`Memory.wf`). -/
abbrev Memory := List Host.Cell

/-- The architectural state of the three variants (R20, R28, R33, R45, R46, R61), the parameters (R6), and the record of
I/O accesses (R62, R63). -/
structure State where
  /-- The parameters of R6; no step writes this field. -/
  cfg : Params
  /-- A, the accumulator, low half of C (R21). -/
  a : BitVec 8
  /-- B, the hidden accumulator, high half of C (R21). -/
  b : BitVec 8
  /-- X (R22). -/
  x : BitVec 16
  /-- Y (R22). -/
  y : BitVec 16
  /-- S, the stack pointer (R23). -/
  sp : BitVec 16
  /-- D, the direct page register (R24). -/
  d : BitVec 16
  /-- DBR, the data bank register (R25). -/
  dbr : BitVec 8
  /-- PBR, the program bank register (R26). -/
  pbr : BitVec 8
  /-- PC (R27). -/
  pc : BitVec 16
  /-- P, the status register (R28); bits 5 and 4 are held at 1 while e = 1 (R30, R34). -/
  p : BitVec 8
  /-- e, the emulation bit (R33). -/
  e : Bool
  /-- The run state (R45). -/
  run : RunState
  /-- The level of the IRQ input, owned by the host (R46, R383). -/
  irqLine : Bool
  /-- The edge latch of the NMI input (R46, R383). -/
  nmiPending : Bool
  /-- The level of the RES input, owned by the host (R46, R420). -/
  resetLine : Bool
  /-- The latch of the ABORT input, of use only if `abortModelled` (R46, R389). -/
  abortPending : Bool
  /-- Memory (R60, R61). -/
  mem : List Host.Cell
  /-- The accesses of `IO_REGIONS` so far, oldest first (R62, R63, R403). -/
  ioLog : List IoEvent
  /-- The model's own field: how many free values have been drawn so far (log 33). -/
  draws : Nat
deriving DecidableEq, Repr

/-- The outcome of one instruction or one step. -/
abbrev Result := Host.Outcome State Fault Refusal

/-- The machine right after reset, as R421 has it; V65816 with the defaults of R6 (log 1). A, B, the low bytes of X, Y and
S, and n, v, z, c are unspecified there and hold the values log 3 names. PC is the word at `VEC_RESET` of a memory that
lists nothing (logs 2, 4). -/
def State.reset : State where
  cfg := Params.defaults .v65816
  a := 0#8
  b := 0#8
  x := 0#16
  y := 0#16
  sp := 0x01FF#16
  d := 0#16
  dbr := 0#8
  pbr := 0#8
  pc := 0#16
  p := 0x34#8
  e := true
  run := .running
  irqLine := false
  nmiPending := false
  resetLine := false
  abortPending := false
  mem := []
  ioLog := []
  draws := 0

end Sys2Proof.Machine
end

