-- ==== Sys2Proof/Machine/Flags.lean ====
section
/-! DEFINITION. The status register and every flag computation: the bits of P (spec rules R28, R29), n and z of a result
(R10), the sums and differences of ADC, SBC and the compares (R161 to R165, R229), and the one-bit shifts (R195). -/

namespace Sys2Proof.Machine

/-! The bits of P (R28). -/

/-- P with bit `k` set to `v`. -/
def setBit (p : BitVec 8) (k : Nat) (v : Bool) : BitVec 8 :=
  if v then p ||| (1#8 <<< k) else p &&& ~~~(1#8 <<< k)

/-- c, bit 0 (R28). -/
def State.flagC (s : State) : Bool := s.p.getLsbD 0

/-- z, bit 1 (R28). -/
def State.flagZ (s : State) : Bool := s.p.getLsbD 1

/-- i, bit 2 (R28). -/
def State.flagI (s : State) : Bool := s.p.getLsbD 2

/-- d, bit 3 (R28). -/
def State.flagD (s : State) : Bool := s.p.getLsbD 3

/-- x, bit 4 (R28); held at 1 while e = 1 (R30). -/
def State.flagX (s : State) : Bool := s.p.getLsbD 4

/-- m, bit 5 (R28); held at 1 while e = 1 (R30). -/
def State.flagM (s : State) : Bool := s.p.getLsbD 5

/-- v, bit 6 (R28). -/
def State.flagV (s : State) : Bool := s.p.getLsbD 6

/-- n, bit 7 (R28). -/
def State.flagN (s : State) : Bool := s.p.getLsbD 7

def State.setFlagC (s : State) (v : Bool) : State := { s with p := setBit s.p 0 v }

def State.setFlagZ (s : State) (v : Bool) : State := { s with p := setBit s.p 1 v }

def State.setFlagI (s : State) (v : Bool) : State := { s with p := setBit s.p 2 v }

def State.setFlagD (s : State) (v : Bool) : State := { s with p := setBit s.p 3 v }

def State.setFlagX (s : State) (v : Bool) : State := { s with p := setBit s.p 4 v }

def State.setFlagM (s : State) (v : Bool) : State := { s with p := setBit s.p 5 v }

def State.setFlagV (s : State) (v : Bool) : State := { s with p := setBit s.p 6 v }

def State.setFlagN (s : State) (v : Bool) : State := { s with p := setBit s.p 7 v }

/-- `setNZ(v, w)` of R10. -/
def State.setNZ (s : State) {n : Nat} (v : BitVec n) : State :=
  (s.setFlagN v.msb).setFlagZ (v.toNat == 0)

/-! Sums and differences. -/

/-- A result with its carry and its signed overflow. -/
structure Sum (n : Nat) where
  value : BitVec n
  carry : Bool
  overflow : Bool
deriving DecidableEq, Repr

/-- Binary addition with carry (R161): the exact sum, then the narrowed result. -/
def addBinary {n : Nat} (acc m : BitVec n) (c : Bool) : Sum n :=
  let sum := acc.toNat + m.toNat + c.toNat
  let r := BitVec.ofNat n sum
  { value := r
    carry := decide (2 ^ n ≤ sum)
    overflow := (acc.msb == m.msb) && (r.msb != acc.msb) }

/-- Binary subtraction with borrow (R163): the exact difference, then its non-negative residue. -/
def subBinary {n : Nat} (acc m : BitVec n) (c : Bool) : Sum n :=
  let diff : Int := (acc.toNat : Int) - m.toNat - (1 - c.toNat)
  let r := BitVec.ofInt n diff
  { value := r
    carry := decide (0 ≤ diff)
    overflow := (acc.msb != m.msb) && (r.msb != acc.msb) }

/-! BCD (R165). A value of n bits holds n/4 decimal digits. -/

/-- Digit `k`: bits 4k+3 to 4k. -/
def bcdDigit {n : Nat} (v : BitVec n) (k : Nat) : Nat := v.toNat / 16 ^ k % 16

/-- `bcdValid(v, w)` of R165. -/
def bcdValid {n : Nat} (v : BitVec n) : Bool := (List.range (n / 4)).all fun k => bcdDigit v k ≤ 9

/-- `bcdToInt(v, w)` of R165. -/
def bcdToInt {n : Nat} (v : BitVec n) : Nat :=
  ((List.range (n / 4)).map fun k => bcdDigit v k * 10 ^ k).sum

/-- `intToBcd(i, w)` of R165. -/
def intToBcd (n i : Nat) : BitVec n :=
  BitVec.ofNat n (((List.range (n / 4)).map fun k => i / 10 ^ k % 10 * 16 ^ k).sum)

/-- Decimal addition (R162): result and carry. -/
def addDecimal {n : Nat} (acc m : BitVec n) (c : Bool) : BitVec n × Bool :=
  let s := bcdToInt acc + bcdToInt m + c.toNat
  (intToBcd n (s % 10 ^ (n / 4)), decide (10 ^ (n / 4) ≤ s))

/-- Decimal subtraction (R164): the non-negative residue of the difference, and whether no borrow was needed. -/
def subDecimal {n : Nat} (acc m : BitVec n) (c : Bool) : BitVec n × Bool :=
  let s : Int := (bcdToInt acc : Int) - bcdToInt m - (1 - c.toNat)
  (intToBcd n (s % (10 ^ (n / 4) : Nat)).toNat, decide (0 ≤ s))

/-- v after a decimal ADC or SBC is a free flag on every variant; n and z are free flags on V6502 and follow the result on
V65C02 and V65816 (R162, R164, U6; log 7). -/
def State.setDecimalNVZ (s : State) {n : Nat} (r : BitVec n) : State :=
  match s.cfg.variant with
  | .v6502 =>
    { ((s.setFlagN (Config.freeFlag s.draws)).setFlagZ (Config.freeFlag (s.draws + 1))).setFlagV
        (Config.freeFlag (s.draws + 2)) with draws := s.draws + 3 }
  | .v65C02 | .v65816 =>
    { (s.setNZ r).setFlagV (Config.freeFlag s.draws) with draws := s.draws + 1 }

/-- The flags of a compare (R229 to R231): n, z and c of reg - m; v, d and the incoming c take no part. -/
def State.setCompare (s : State) {n : Nat} (reg m : BitVec n) : State :=
  (s.setNZ (reg - m)).setFlagC (decide (m.toNat ≤ reg.toNat))

/-! Shifts and rotates by one bit (R195): the result and the bit shifted out, from the value and the carry shifted in. -/

/-- ASL (R196). -/
def shiftAsl {n : Nat} (v : BitVec n) (_ : Bool) : BitVec n × Bool := (v <<< 1, v.msb)

/-- LSR (R197). -/
def shiftLsr {n : Nat} (v : BitVec n) (_ : Bool) : BitVec n × Bool := (v >>> 1, v.getLsbD 0)

/-- ROL (R198). -/
def shiftRol {n : Nat} (v : BitVec n) (c : Bool) : BitVec n × Bool :=
  ((v <<< 1) ||| BitVec.ofNat n c.toNat, v.msb)

/-- ROR (R199). -/
def shiftRor {n : Nat} (v : BitVec n) (c : Bool) : BitVec n × Bool :=
  ((v >>> 1) ||| (BitVec.ofNat n c.toNat <<< (n - 1)), v.getLsbD 0)

end Sys2Proof.Machine
end

