-- ==== Sys2Proof/Machine/Ops.lean ====
section
/-! DEFINITION. The named operations over memory and registers: bytes of memory (spec rules R60 to R66), registers at the
widths in force (R21, R22, R31, R32), the stack (R70 to R74), taking an interrupt and returning from one (R384 to R386,
R342), and the reset sequence (R421). -/

namespace Sys2Proof.Machine

/-! Bytes, words and full addresses. -/

/-- `bb:aaaa` (R7, R61). -/
def fullAddr (bank : Byte) (off : Word) : Addr := bank ++ off

/-- The bank of a full address (R61). -/
def bankOf (a : Addr) : Byte := a.extractLsb' 16 8

/-- The 16-bit offset of a full address (R61). -/
def offsetOf (a : Addr) : Word := a.extractLsb' 0 16

/-- The low byte of a word. -/
def low (v : Word) : Byte := v.extractLsb' 0 8

/-- The high byte of a word. -/
def high (v : Word) : Byte := v.extractLsb' 8 8

/-- The low `w` bits of a word: `v[w-1:0]` of R8. -/
def atWidth (w : Width) (v : Word) : BitVec w.bits := v.extractLsb' 0 w.bits

/-- `sext_16` of R9. -/
def signExtend16 (v : Byte) : Word := v.signExtend 16

/-! Memory (R60 to R63). -/

/-- What an unlisted byte of memory reads as. The initial content is the platform's (R78); DESIGN CHOICE, log 2. -/
def Memory.unlisted : Byte := 0#8

/-- The byte at an address. -/
def Memory.read : Memory → Nat → Byte
  | [], _ => Memory.unlisted
  | (b, v) :: rest, a => if b = a then v else Memory.read rest a

/-- Memory with one byte written, in canonical form again. -/
def Memory.write : Memory → Nat → Byte → Memory
  | [], a, v => if v = Memory.unlisted then [] else [(a, v)]
  | (b, u) :: rest, a, v =>
    if a < b then (if v = Memory.unlisted then (b, u) :: rest else (a, v) :: (b, u) :: rest)
    else if a = b then (if v = Memory.unlisted then rest else (a, v) :: rest)
    else (b, u) :: Memory.write rest a v

/-- The canonical form: addresses strictly rising and below 2^24, no entry equal to what an unlisted address reads as. -/
abbrev Memory.wf (m : Memory) : Prop :=
  m.Pairwise (fun p q => p.1 < q.1) ∧ ∀ p ∈ m, p.1 < 2 ^ 24 ∧ p.2 ≠ Memory.unlisted

/-- Whether an address lies in one of some regions. -/
def inRegions (rs : List Region) (a : Addr) : Bool := rs.any fun r => r.first ≤ a.toNat && a.toNat ≤ r.last

/-- `addr ∈ IO_REGIONS` (R62). -/
def State.isIo (s : State) (a : Addr) : Bool := inRegions s.cfg.ioRegions a

/-- `Writable(addr)` (R63). -/
def State.writable (s : State) (a : Addr) : Bool := !inRegions s.cfg.romRegions a

/-- The byte memory holds at an address: `Mem[addr]` of R61. What an instruction reads there is `readByte`. -/
def State.byteAt (s : State) (a : Addr) : Byte := Memory.read s.mem a.toNat

/-- `MemRead(addr, 1)` (R62). In `IO_REGIONS` the host supplies the value, a free value, and the access is recorded. -/
def readByte (a : Addr) (s : State) : Byte × State :=
  if s.isIo a then
    (Config.ioValue s.draws, { s with draws := s.draws + 1, ioLog := s.ioLog ++ [.read a (Config.ioValue s.draws)] })
  else (s.byteAt a, s)

/-- `MemWrite(addr, 1, v)` (R63). In `IO_REGIONS` it is an output to the host; where not `Writable` it has no effect. -/
def writeByte (a : Addr) (v : Byte) (s : State) : State :=
  if s.isIo a then { s with ioLog := s.ioLog ++ [.write a v] }
  else if s.writable a then { s with mem := Memory.write s.mem a.toNat v }
  else s

/-! Locations and multi-byte accesses (R64, R65). -/

/-- Where byte `k` of a multi-byte operand lives (R64). -/
inductive Wrap where
  | linear
  | bank
  | page
deriving DecidableEq, Repr

/-- A location `(addr, wrap)` (R64). -/
structure Loc where
  addr : Addr
  wrap : Wrap
deriving DecidableEq, Repr

/-- `lin(a)` of R149: modulo 2^24 on V65816, modulo 2^16 with bank 0 on the 8-bit variants. -/
def linear (v : Variant) (a : Addr) : Addr :=
  match v with
  | .v65816 => a
  | .v6502 | .v65C02 => fullAddr 0#8 (offsetOf a)

/-- `byteaddr(loc, k)` of R64. -/
def byteAddr (v : Variant) (l : Loc) (k : Nat) : Addr :=
  match l.wrap with
  | .linear => linear v (l.addr + BitVec.ofNat 24 k)
  | .bank => fullAddr (bankOf l.addr) (offsetOf l.addr + BitVec.ofNat 16 k)
  | .page => fullAddr (bankOf l.addr) (high (offsetOf l.addr) ++ (low (offsetOf l.addr) + BitVec.ofNat 8 k))

/-- `MemRead(loc, 2)`: low byte first (R64). -/
def read16 (l : Loc) (s : State) : Word × State :=
  match readByte (byteAddr s.cfg.variant l 0) s with
  | (b0, s0) =>
    match readByte (byteAddr s.cfg.variant l 1) s0 with
    | (b1, s1) => (b1 ++ b0, s1)

/-- `MemRead(loc, 3)`: low byte first (R64). -/
def read24 (l : Loc) (s : State) : Addr × State :=
  match read16 l s with
  | (lo, s1) =>
    match readByte (byteAddr s.cfg.variant l 2) s1 with
    | (b2, s2) => (b2 ++ lo, s2)

/-- `MemRead(loc, w/8)` (R64). -/
def readAt (w : Width) (l : Loc) (s : State) : BitVec w.bits × State :=
  match w with
  | .w8 => readByte (byteAddr s.cfg.variant l 0) s
  | .w16 => read16 l s

/-- `MemWrite(loc, w/8, v)`: low byte first (R65). -/
def writeAt (w : Width) (l : Loc) (v : BitVec w.bits) (s : State) : State :=
  match w, v with
  | .w8, v => writeByte (byteAddr s.cfg.variant l 0) v s
  | .w16, v =>
    writeByte (byteAddr s.cfg.variant l 1) (high v) (writeByte (byteAddr s.cfg.variant l 0) (low v) s)

/-! Widths and registers (R21, R22, R31, R32). -/

/-- `mw` of R31. -/
def State.mw (s : State) : Width :=
  if s.cfg.variant = .v65816 ∧ s.e = false ∧ s.flagM = false then .w16 else .w8

/-- `xw` of R32. -/
def State.xw (s : State) : Width :=
  if s.cfg.variant = .v65816 ∧ s.e = false ∧ s.flagX = false then .w16 else .w8

/-- The two widths decoding depends on (R93). -/
def State.widths (s : State) : Widths := ⟨s.mw, s.xw⟩

/-- C = B:A (R21). -/
def State.c (s : State) : Word := s.b ++ s.a

/-- A write of C writes both halves (R21). -/
def State.setC (s : State) (v : Word) : State := { s with a := low v, b := high v }

/-- `Aw` of R10: A, or C when the width is 16. -/
def State.acc (s : State) (w : Width) : BitVec w.bits :=
  match w with
  | .w8 => s.a
  | .w16 => s.c

/-- A write of `Aw`: at width 8, B is unchanged (R21). -/
def State.setAcc (s : State) (w : Width) (v : BitVec w.bits) : State :=
  match w, v with
  | .w8, v => { s with a := v }
  | .w16, v => s.setC v

/-- `X[w-1:0]`. -/
def State.xAt (s : State) (w : Width) : BitVec w.bits := atWidth w s.x

/-- `Y[w-1:0]`. -/
def State.yAt (s : State) (w : Width) : BitVec w.bits := atWidth w s.y

/-- `X <- zext_16(v)` (R22). -/
def State.setX (s : State) {n : Nat} (v : BitVec n) : State := { s with x := v.zeroExtend 16 }

/-- `Y <- zext_16(v)` (R22). -/
def State.setY (s : State) {n : Nat} (v : BitVec n) : State := { s with y := v.zeroExtend 16 }

/-- `X[15:8] <- 0; Y[15:8] <- 0` (invariant I4 of R34). -/
def State.clearIndexHigh (s : State) : State :=
  { s with x := (low s.x).zeroExtend 16, y := (low s.y).zeroExtend 16 }

/-- A write of S by TXS and TCS: with e = 1 the high byte stays 0x01 (R282, R287). -/
def State.setS (s : State) (v : Word) : State :=
  { s with sp := if s.e then 0x01#8 ++ low v else v }

/-- `PC <- (PC + n) mod 0x10000` (R11, R27). -/
def State.advance (s : State) (n : Nat) : State := { s with pc := s.pc + BitVec.ofNat 16 n }

/-- `pc <- target`, PBR unchanged. -/
def State.jump (s : State) (target : Word) : State := { s with pc := target }

/-- `PBR:PC <- bank:target`. -/
def State.jumpLong (s : State) (bank : Byte) (target : Word) : State := { s with pbr := bank, pc := target }

/-! The stack (R70 to R74). -/

/-- S one lower: within page 1 when e = 1, within bank 0 otherwise (R71). -/
def stackBelow (s : State) : Word := if s.e then 0x01#8 ++ (low s.sp - 1#8) else s.sp - 1#16

/-- S one higher (R72). -/
def stackAbove (s : State) : Word := if s.e then 0x01#8 ++ (low s.sp + 1#8) else s.sp + 1#16

/-- `Push8(v)` (R71). -/
def push8 (v : Byte) (s : State) : State :=
  { writeByte (fullAddr 0#8 s.sp) v s with sp := stackBelow s }

/-- `Push16(v)`: high byte first (R71). -/
def push16 (v : Word) (s : State) : State := push8 (low v) (push8 (high v) s)

/-- A push of `w` bits (R310). -/
def pushAt (w : Width) (v : BitVec w.bits) (s : State) : State :=
  match w, v with
  | .w8, v => push8 v s
  | .w16, v => push16 v s

/-- `Pull8()` (R72). -/
def pull8 (s : State) : Byte × State :=
  readByte (fullAddr 0#8 (stackAbove s)) { s with sp := stackAbove s }

/-- `Pull16()`: low byte first (R72). -/
def pull16 (s : State) : Word × State :=
  match pull8 s with
  | (lo, s0) =>
    match pull8 s0 with
    | (hi, s1) => (hi ++ lo, s1)

/-- A pull of `w` bits (R310). -/
def pullAt (w : Width) (s : State) : BitVec w.bits × State :=
  match w with
  | .w8 => pull8 s
  | .w16 => pull16 s

/-- R74: with e = 1, one of the nine 65816-only stack instructions would push `n` bytes and wrap in page 1 before the last. -/
def pushWraps (n : Nat) (s : State) : Bool := s.e && decide ((low s.sp).toNat + 1 < n)

/-- R74: with e = 1, one of them would pull `n` bytes and wrap in page 1. -/
def pullWraps (n : Nat) (s : State) : Bool := s.e && decide (0xFF < (low s.sp).toNat + n)

/-! Taking an interrupt (R384 to R388) and returning from one (R342). -/

/-- The kinds of interrupt that enter a handler (R381, R386). -/
inductive InterruptKind where
  | brk
  | cop
  | irq
  | nmi
  | abort
deriving DecidableEq, Repr

/-- `Vector(kind, e)`: an offset in bank 0 (R384). -/
def vectorOf (kind : InterruptKind) (s : State) : Word :=
  match kind, s.e with
  | .cop, true => 0xFFF4#16
  | .cop, false => 0xFFE4#16
  | .brk, true => 0xFFFE#16
  | .brk, false => 0xFFE6#16
  | .abort, true => s.cfg.vecAbortE
  | .abort, false => s.cfg.vecAbortN
  | .nmi, true => s.cfg.vecNmiE
  | .nmi, false => s.cfg.vecNmiN
  | .irq, true => 0xFFFE#16
  | .irq, false => s.cfg.vecIrqN

/-- Whether an entry is by a software interrupt, whose pushed byte has b = 1 when e = 1 (R385). -/
def InterruptKind.isSoftware : InterruptKind → Bool
  | .brk | .cop => true
  | .irq | .nmi | .abort => false

/-- `StatusByte(kind)` (R385). -/
def statusByte (kind : InterruptKind) (s : State) : Byte :=
  if s.e then (s.p &&& 0xCF#8) ||| 0x20#8 ||| (if kind.isSoftware then 0x10#8 else 0x00#8) else s.p

/-- What an entry pushes: PBR in native mode only, the return offset, the status byte (R386). -/
def interruptPushes (kind : InterruptKind) (ret : Word) (s : State) : State :=
  push8 (statusByte kind s) (push16 ret (if s.e then s else push8 s.pbr s))

/-- The flags an entry changes: i set; d cleared on V65C02 and V65816 (R386). -/
def interruptFlags (s : State) : State :=
  match s.cfg.variant with
  | .v6502 => s.setFlagI true
  | .v65C02 | .v65816 => (s.setFlagI true).setFlagD false

/-- `MemRead((00:vec, BANK), 2)` (R384). -/
def readVector (vec : Word) (s : State) : Word × State := read16 ⟨fullAddr 0#8 vec, .bank⟩ s

/-- `Interrupt(kind, ret)` (R386): the entry sequence shared by BRK, COP, IRQ and NMI. -/
def interrupt (kind : InterruptKind) (ret : Word) (s : State) : State :=
  match readVector (vectorOf kind s) { interruptFlags (interruptPushes kind ret s) with pbr := 0#8 } with
  | (target, s1) => { s1 with pc := target, run := .running }

/-- P from a pulled status byte (R314, R342): with e = 1 bits 5 and 4 of the byte are ignored; if x becomes 1 the high bytes
of X and Y are cleared. -/
def restoreStatus (t : Byte) (s : State) : State :=
  let s1 := { s with p := if s.e then (t &&& 0xCF#8) ||| 0x30#8 else t }
  if s1.flagX then s1.clearIndexHigh else s1

/-- The return from an interrupt (R342): status, program counter, and in native mode the program bank. -/
def returnFromInterrupt (s : State) : State :=
  match pull8 s with
  | (t, s1) =>
    match pull16 (restoreStatus t s1) with
    | (target, s2) =>
      if s2.e then s2.jump target
      else
        match pull8 s2 with
        | (bank, s3) => s3.jumpLong bank target

/-- P after reset (R421): m, x and i set; d cleared but on V6502, where it is unspecified; n, v, z and c unspecified. The
unspecified flags are free values (log 5). -/
def resetStatus (v : Variant) (draws : Nat) : Byte :=
  let p0 := setBit (setBit (setBit (setBit 0x34#8 7 (Config.freeFlag draws)) 6 (Config.freeFlag (draws + 1))) 1
    (Config.freeFlag (draws + 2))) 0 (Config.freeFlag (draws + 3))
  match v with
  | .v6502 => setBit p0 3 (Config.freeFlag (draws + 4))
  | .v65C02 | .v65816 => p0

/-- The reset sequence (R391, R421). A, B, the low bytes of X, Y and S, and the unspecified flags are free values (log 5);
memory and the host's lines are left alone. -/
def resetSequence (s : State) : State :=
  let k := s.draws
  match readVector s.cfg.vecReset
      { s with
        a := Config.freeByte k
        b := Config.freeByte (k + 1)
        x := (Config.freeByte (k + 2)).zeroExtend 16
        y := (Config.freeByte (k + 3)).zeroExtend 16
        sp := 0x01#8 ++ Config.freeByte (k + 4)
        p := resetStatus s.cfg.variant (k + 5)
        d := 0#16
        dbr := 0#8
        pbr := 0#8
        e := true
        run := .running
        nmiPending := false
        abortPending := false
        draws := k + 10 } with
  | (target, s1) => { s1 with pc := target }

end Sys2Proof.Machine
end

