-- ==== Sys2Proof/Machine/Operands.lean ====
section
/-! DEFINITION. Every addressing mode and operand form (spec file 40_addressing_modes.md). A mode either is refused, by the
registers alone (rule R149), or gives a location; the pointer reads it makes are ordinary reads (R151). -/

namespace Sys2Proof.Machine

/-- The modes that address data (R122 to R136). -/
inductive AddrMode where
  | abs (base : Word)
  | long (base : Addr)
  | dp (off : Byte)
  | dpInd (off : Byte)
  | dpIndLong (off : Byte)
  | absX (base : Word)
  | longX (base : Addr)
  | absY (base : Word)
  | dpX (off : Byte)
  | dpY (off : Byte)
  | dpXInd (off : Byte)
  | dpIndY (off : Byte)
  | dpIndLongY (off : Byte)
  | sr (off : Byte)
  | srIndY (off : Byte)
deriving DecidableEq, Repr

/-- An operand that is read: an immediate value (R121) or a location. -/
inductive Operand where
  | imm (v : Word)
  | mem (m : AddrMode)
deriving DecidableEq, Repr

/-- The bytes of an instruction with this mode (R91, R93). -/
def AddrMode.length : AddrMode → Nat
  | .abs _ | .absX _ | .absY _ => 3
  | .long _ | .longX _ => 4
  | .dp _ | .dpInd _ | .dpIndLong _ | .dpX _ | .dpY _ | .dpXInd _ | .dpIndY _ | .dpIndLongY _ | .sr _ | .srIndY _ => 2

/-- The bytes of an instruction with this operand at width `w` (R91, R93). -/
def Operand.length (w : Width) : Operand → Nat
  | .imm _ => 1 + w.bytes
  | .mem m => m.length

/-- The condition of `DPLoc` under which it wraps inside the 256-byte page (R149). -/
def State.dpWrapsInPage (s : State) : Bool :=
  decide (s.cfg.variant ≠ .v65816) || (s.e && low s.d == 0#8)

/-- `DPLoc(off, idx)` of R149. -/
def dpLoc (off : Byte) (idx : Word) (s : State) : Loc :=
  if s.dpWrapsInPage then ⟨fullAddr 0#8 (high s.d ++ (off + low idx)), .page⟩
  else ⟨fullAddr 0#8 (s.d + off.zeroExtend 16 + idx), .bank⟩

/-- The refusal of `DPLocNew(off, n)` (R149). -/
def dpNewCrosses (off : Byte) (n : Nat) (s : State) : Bool :=
  decide (s.cfg.variant = .v65816) && s.e && low s.d == 0#8 && decide (0xFF < off.toNat + n - 1)

/-- `DPLocNew(off, n)` of R149, where it is not refused. -/
def dpLocNew (off : Byte) (s : State) : Loc := ⟨fullAddr 0#8 (s.d + off.zeroExtend 16), .bank⟩

/-- The refusal of the pointer of `(dp,X)` on V65816 with e = 1 and DL nonzero (R149). -/
def dpXPointerCrosses (off : Byte) (s : State) : Bool :=
  decide (s.cfg.variant = .v65816) && s.e && low s.d != 0#8 && low (s.d + off.zeroExtend 16 + s.x) == 0xFF#8

/-- The stack-relative location `00:(S + sr)` (R135). -/
def srLoc (sr : Byte) (s : State) : Loc := ⟨fullAddr 0#8 (s.sp + sr.zeroExtend 16), .bank⟩

/-- `lin(base + idx)`, a LINEAR location (R127 to R129, R133, R134, R136). -/
def indexedLoc (v : Variant) (base : Addr) (idx : Word) : Loc := ⟨linear v (base + idx.zeroExtend 24), .linear⟩

/-- Where a mode is refused (R149); the registers alone decide it. -/
def AddrMode.refusal (m : AddrMode) (s : State) : Option Refusal :=
  match m with
  | .dpIndLong off | .dpIndLongY off => if dpNewCrosses off 3 s then some .directPageNewModeCrossesPage else none
  | .dpXInd off => if dpXPointerCrosses off s then some .directPagePointerCrossesPage else none
  | .abs _ | .long _ | .dp _ | .dpInd _ | .absX _ | .longX _ | .absY _ | .dpX _ | .dpY _ | .dpIndY _ | .sr _
  | .srIndY _ => none

/-- The location of the operand, and the state after the mode's pointer reads (R122 to R136). -/
def AddrMode.resolve (m : AddrMode) (s : State) : Loc × State :=
  match m with
  | .abs base => (⟨fullAddr s.dbr base, .linear⟩, s)
  | .long base => (⟨base, .linear⟩, s)
  | .dp off => (dpLoc off 0#16 s, s)
  | .dpInd off =>
    match read16 (dpLoc off 0#16 s) s with
    | (ptr, s1) => (⟨fullAddr s.dbr ptr, .linear⟩, s1)
  | .dpIndLong off =>
    match read24 (dpLocNew off s) s with
    | (ptr, s1) => (⟨ptr, .linear⟩, s1)
  | .absX base => (indexedLoc s.cfg.variant (fullAddr s.dbr base) s.x, s)
  | .longX base => (indexedLoc s.cfg.variant base s.x, s)
  | .absY base => (indexedLoc s.cfg.variant (fullAddr s.dbr base) s.y, s)
  | .dpX off => (dpLoc off s.x s, s)
  | .dpY off => (dpLoc off s.y s, s)
  | .dpXInd off =>
    match read16 (dpLoc off s.x s) s with
    | (ptr, s1) => (⟨fullAddr s.dbr ptr, .linear⟩, s1)
  | .dpIndY off =>
    match read16 (dpLoc off 0#16 s) s with
    | (ptr, s1) => (indexedLoc s.cfg.variant (fullAddr s.dbr ptr) s.y, s1)
  | .dpIndLongY off =>
    match read24 (dpLocNew off s) s with
    | (ptr, s1) => (indexedLoc s.cfg.variant ptr s.y, s1)
  | .sr off => (srLoc off s, s)
  | .srIndY off =>
    match read16 (srLoc off s) s with
    | (ptr, s1) => (indexedLoc s.cfg.variant (fullAddr s.dbr ptr) s.y, s1)

/-- Where an operand is refused. -/
def Operand.refusal (o : Operand) (s : State) : Option Refusal :=
  match o with
  | .imm _ => none
  | .mem m => m.refusal s

/-- The value of an operand at width `w`, and the state after the reads (R121, R160, R190, R270). -/
def Operand.read (w : Width) (o : Operand) (s : State) : BitVec w.bits × State :=
  match o with
  | .imm v => (atWidth w v, s)
  | .mem m =>
    match m.resolve s with
    | (l, s1) => readAt w l s1

/-- An instruction that reads an operand: refused where the mode is, otherwise it goes on with the value. -/
def withOperand (w : Width) (o : Operand) (s : State) (k : BitVec w.bits → State → Result) : Result :=
  match o.refusal s with
  | some r => .refused r
  | none =>
    match o.read w s with
    | (m, s1) => k m s1

/-- An instruction that writes the operand location (R274 to R277): no flag, PC past the instruction. -/
def store (w : Width) (m : AddrMode) (v : BitVec w.bits) (s : State) : Result :=
  match m.refusal s with
  | some r => .refused r
  | none =>
    match m.resolve s with
    | (l, s1) => .next ((writeAt w l v s1).advance m.length)

/-- A read-modify-write of the operand location (R69): `f` gives the value written back and the state with its flags. -/
def modify (w : Width) (m : AddrMode) (s : State) (f : BitVec w.bits → State → BitVec w.bits × State) : Result :=
  match m.refusal s with
  | some r => .refused r
  | none =>
    match m.resolve s with
    | (l, s1) =>
      match readAt w l s1 with
      | (v, s2) =>
        match f v s2 with
        | (r, s3) => .next ((writeAt w l r s3).advance m.length)

/-- A read-modify-write of the accumulator at data width (R137). -/
def modifyAcc (w : Width) (s : State) (f : BitVec w.bits → State → BitVec w.bits × State) : Result :=
  match f (s.acc w) s with
  | (r, s1) => .next ((s1.setAcc w r).advance 1)

/-! Targets of control transfers (R139 to R143). -/

/-- The target of a program counter relative branch of length 2 (R139). -/
def relTarget (disp : Byte) (s : State) : Word := s.pc + 2#16 + signExtend16 disp

/-- The target of a program counter relative long branch, and the value PER pushes, of length 3 (R140, R146). -/
def relLongTarget (disp : Word) (s : State) : Word := s.pc + 3#16 + disp

/-- The refusal of `(addr)` on V6502 (R141). -/
def absIndRefused (addr : Word) (s : State) : Bool :=
  decide (s.cfg.variant = .v6502) && low addr == 0xFF#8 && decide (s.cfg.jmpIndFF = .fault)

/-- The pointer location of `(addr)` (R141): PAGE on V6502 when the low byte of `addr` is 0xFF. -/
def absIndLoc (addr : Word) (s : State) : Loc :=
  if s.cfg.variant = .v6502 ∧ low addr = 0xFF#8 then ⟨fullAddr 0#8 addr, .page⟩ else ⟨fullAddr 0#8 addr, .bank⟩

/-- The pointer location of `(addr,X)`, in the program bank (R142). -/
def absXIndLoc (addr : Word) (s : State) : Loc := ⟨fullAddr s.pbr (addr + s.x), .bank⟩

/-- The pointer location of `[addr]`, in bank 0 (R143). -/
def absIndLongLoc (addr : Word) : Loc := ⟨fullAddr 0#8 addr, .bank⟩

end Sys2Proof.Machine
end

