-- ==== Sys2Proof/Machine/Arithmetic.lean ====
section
/-! DEFINITION. The arithmetic instructions ADC, SBC, DEC, DEX, DEY, INC, INX, INY (spec file 41_arithmetic.md). -/

namespace Sys2Proof.Machine

/-- ADC once the operand is read: binary (R161) or decimal (R162) by d. -/
def adcValue (w : Width) (len : Nat) (m : BitVec w.bits) (s : State) : Result :=
  if s.flagD then
    if bcdValid (s.acc w) && bcdValid m then
      match addDecimal (s.acc w) m s.flagC with
      | (r, c) => .next ((((s.setDecimalNVZ r).setFlagC c).setAcc w r).advance len)
    else .refused .adcNotBcd
  else
    let r := addBinary (s.acc w) m s.flagC
    .next (((((s.setNZ r.value).setFlagV r.overflow).setFlagC r.carry).setAcc w r.value).advance len)

/-- SBC once the operand is read: binary (R163) or decimal (R164) by d. -/
def sbcValue (w : Width) (len : Nat) (m : BitVec w.bits) (s : State) : Result :=
  if s.flagD then
    if bcdValid (s.acc w) && bcdValid m then
      match subDecimal (s.acc w) m s.flagC with
      | (r, c) => .next ((((s.setDecimalNVZ r).setFlagC c).setAcc w r).advance len)
    else .refused .sbcNotBcd
  else
    let r := subBinary (s.acc w) m s.flagC
    .next (((((s.setNZ r.value).setFlagV r.overflow).setFlagC r.carry).setAcc w r.value).advance len)

/-- ADC with an operand form (R160 to R162). -/
def adc (o : Operand) (s : State) : Result := withOperand s.mw o s (adcValue s.mw (o.length s.mw))

/-- SBC with an operand form (R160, R163, R164). -/
def sbc (o : Operand) (s : State) : Result := withOperand s.mw o s (sbcValue s.mw (o.length s.mw))

/-- The value DEC writes back, with n and z (R166). -/
def decrement {n : Nat} (v : BitVec n) (s : State) : BitVec n × State := (v - 1, s.setNZ (v - 1))

/-- The value INC writes back, with n and z (R169). -/
def increment {n : Nat} (v : BitVec n) (s : State) : BitVec n × State := (v + 1, s.setNZ (v + 1))

/-- DEX, DEY, INX, INY: X gets a result of the index width, with n and z (R167, R170). -/
def setXNZ {n : Nat} (r : BitVec n) (s : State) : State := (s.setNZ r).setX r

/-- As `setXNZ` for Y (R168, R171). -/
def setYNZ {n : Nat} (r : BitVec n) (s : State) : State := (s.setNZ r).setY r

/-- 61 `ADC (dp,X)` (R161, R132). -/
def execAdcDpXInd (dp : Byte) (s : State) : Result :=
  adc (.mem (.dpXInd dp)) s

/-- 63 `ADC sr,S` (R161, R135). -/
def execAdcSr (sr : Byte) (s : State) : Result :=
  adc (.mem (.sr sr)) s

/-- 65 `ADC dp` (R161, R124). -/
def execAdcDp (dp : Byte) (s : State) : Result :=
  adc (.mem (.dp dp)) s

/-- 67 `ADC [dp]` (R161, R126). -/
def execAdcDpIndLong (dp : Byte) (s : State) : Result :=
  adc (.mem (.dpIndLong dp)) s

/-- 69 `ADC #const` (R161, R121). -/
def execAdcImm (imm : Word) (s : State) : Result :=
  adc (.imm imm) s

/-- 6D `ADC addr` (R161, R122). -/
def execAdcAbs (addr : Word) (s : State) : Result :=
  adc (.mem (.abs addr)) s

/-- 6F `ADC long` (R161, R123). -/
def execAdcLong (addr : Addr) (s : State) : Result :=
  adc (.mem (.long addr)) s

/-- 71 `ADC (dp),Y` (R161, R133). -/
def execAdcDpIndY (dp : Byte) (s : State) : Result :=
  adc (.mem (.dpIndY dp)) s

/-- 72 `ADC (dp)` (R161, R125). -/
def execAdcDpInd (dp : Byte) (s : State) : Result :=
  adc (.mem (.dpInd dp)) s

/-- 73 `ADC (sr,S),Y` (R161, R136). -/
def execAdcSrIndY (sr : Byte) (s : State) : Result :=
  adc (.mem (.srIndY sr)) s

/-- 75 `ADC dp,X` (R161, R130). -/
def execAdcDpX (dp : Byte) (s : State) : Result :=
  adc (.mem (.dpX dp)) s

/-- 77 `ADC [dp],Y` (R161, R134). -/
def execAdcDpIndLongY (dp : Byte) (s : State) : Result :=
  adc (.mem (.dpIndLongY dp)) s

/-- 79 `ADC addr,Y` (R161, R129). -/
def execAdcAbsY (addr : Word) (s : State) : Result :=
  adc (.mem (.absY addr)) s

/-- 7D `ADC addr,X` (R161, R127). -/
def execAdcAbsX (addr : Word) (s : State) : Result :=
  adc (.mem (.absX addr)) s

/-- 7F `ADC long,X` (R161, R128). -/
def execAdcLongX (addr : Addr) (s : State) : Result :=
  adc (.mem (.longX addr)) s

/-- E1 `SBC (dp,X)` (R163, R132). -/
def execSbcDpXInd (dp : Byte) (s : State) : Result :=
  sbc (.mem (.dpXInd dp)) s

/-- E3 `SBC sr,S` (R163, R135). -/
def execSbcSr (sr : Byte) (s : State) : Result :=
  sbc (.mem (.sr sr)) s

/-- E5 `SBC dp` (R163, R124). -/
def execSbcDp (dp : Byte) (s : State) : Result :=
  sbc (.mem (.dp dp)) s

/-- E7 `SBC [dp]` (R163, R126). -/
def execSbcDpIndLong (dp : Byte) (s : State) : Result :=
  sbc (.mem (.dpIndLong dp)) s

/-- E9 `SBC #const` (R163, R121). -/
def execSbcImm (imm : Word) (s : State) : Result :=
  sbc (.imm imm) s

/-- ED `SBC addr` (R163, R122). -/
def execSbcAbs (addr : Word) (s : State) : Result :=
  sbc (.mem (.abs addr)) s

/-- EF `SBC long` (R163, R123). -/
def execSbcLong (addr : Addr) (s : State) : Result :=
  sbc (.mem (.long addr)) s

/-- F1 `SBC (dp),Y` (R163, R133). -/
def execSbcDpIndY (dp : Byte) (s : State) : Result :=
  sbc (.mem (.dpIndY dp)) s

/-- F2 `SBC (dp)` (R163, R125). -/
def execSbcDpInd (dp : Byte) (s : State) : Result :=
  sbc (.mem (.dpInd dp)) s

/-- F3 `SBC (sr,S),Y` (R163, R136). -/
def execSbcSrIndY (sr : Byte) (s : State) : Result :=
  sbc (.mem (.srIndY sr)) s

/-- F5 `SBC dp,X` (R163, R130). -/
def execSbcDpX (dp : Byte) (s : State) : Result :=
  sbc (.mem (.dpX dp)) s

/-- F7 `SBC [dp],Y` (R163, R134). -/
def execSbcDpIndLongY (dp : Byte) (s : State) : Result :=
  sbc (.mem (.dpIndLongY dp)) s

/-- F9 `SBC addr,Y` (R163, R129). -/
def execSbcAbsY (addr : Word) (s : State) : Result :=
  sbc (.mem (.absY addr)) s

/-- FD `SBC addr,X` (R163, R127). -/
def execSbcAbsX (addr : Word) (s : State) : Result :=
  sbc (.mem (.absX addr)) s

/-- FF `SBC long,X` (R163, R128). -/
def execSbcLongX (addr : Addr) (s : State) : Result :=
  sbc (.mem (.longX addr)) s

/-- 3A `DEC A` (R166, R137). -/
def execDecA (s : State) : Result :=
  modifyAcc s.mw s decrement

/-- C6 `DEC dp` (R166, R124). -/
def execDecDp (dp : Byte) (s : State) : Result :=
  modify s.mw (.dp dp) s decrement

/-- CE `DEC addr` (R166, R122). -/
def execDecAbs (addr : Word) (s : State) : Result :=
  modify s.mw (.abs addr) s decrement

/-- D6 `DEC dp,X` (R166, R130). -/
def execDecDpX (dp : Byte) (s : State) : Result :=
  modify s.mw (.dpX dp) s decrement

/-- DE `DEC addr,X` (R166, R127). -/
def execDecAbsX (addr : Word) (s : State) : Result :=
  modify s.mw (.absX addr) s decrement

/-- CA `DEX` (R167, R138). -/
def execDex (s : State) : Result :=
  .next ((setXNZ (s.xAt s.xw - 1) s).advance 1)

/-- 88 `DEY` (R168, R138). -/
def execDey (s : State) : Result :=
  .next ((setYNZ (s.yAt s.xw - 1) s).advance 1)

/-- 1A `INC A` (R169, R137). -/
def execIncA (s : State) : Result :=
  modifyAcc s.mw s increment

/-- E6 `INC dp` (R169, R124). -/
def execIncDp (dp : Byte) (s : State) : Result :=
  modify s.mw (.dp dp) s increment

/-- EE `INC addr` (R169, R122). -/
def execIncAbs (addr : Word) (s : State) : Result :=
  modify s.mw (.abs addr) s increment

/-- F6 `INC dp,X` (R169, R130). -/
def execIncDpX (dp : Byte) (s : State) : Result :=
  modify s.mw (.dpX dp) s increment

/-- FE `INC addr,X` (R169, R127). -/
def execIncAbsX (addr : Word) (s : State) : Result :=
  modify s.mw (.absX addr) s increment

/-- E8 `INX` (R170, R138). -/
def execInx (s : State) : Result :=
  .next ((setXNZ (s.xAt s.xw + 1) s).advance 1)

/-- C8 `INY` (R171, R138). -/
def execIny (s : State) : Result :=
  .next ((setYNZ (s.yAt s.xw + 1) s).advance 1)

end Sys2Proof.Machine
end

