-- ==== Sys2Proof/Machine/Binary.lean ====
section
/-! DEFINITION. The binary operations AND, BIT, EOR, ORA, ASL, LSR, ROL, ROR, TRB, TSB (spec file 42_binary.md). -/

namespace Sys2Proof.Machine

/-- A result goes to the accumulator, with n and z (R191, R193, R194). -/
def logicResult (w : Width) (len : Nat) (r : BitVec w.bits) (s : State) : Result :=
  .next (((s.setNZ r).setAcc w r).advance len)

/-- AND with an operand form (R191). -/
def andA (o : Operand) (s : State) : Result :=
  withOperand s.mw o s fun m s1 => logicResult s.mw (o.length s.mw) (s1.acc s.mw &&& m) s1

/-- EOR with an operand form (R193). -/
def eorA (o : Operand) (s : State) : Result :=
  withOperand s.mw o s fun m s1 => logicResult s.mw (o.length s.mw) (s1.acc s.mw ^^^ m) s1

/-- ORA with an operand form (R194). -/
def oraA (o : Operand) (s : State) : Result :=
  withOperand s.mw o s fun m s1 => logicResult s.mw (o.length s.mw) (s1.acc s.mw ||| m) s1

/-- z of BIT, TRB and TSB: whether the AND of memory and accumulator is zero (R192, R200, R201). -/
def setTestZ {n : Nat} (acc m : BitVec n) (s : State) : State := s.setFlagZ ((acc &&& m).toNat == 0)

/-- BIT with a memory operand: n and v from the two top bits of memory (R192). -/
def bitMem (m : AddrMode) (s : State) : Result :=
  withOperand s.mw (.mem m) s fun v s1 =>
    .next ((((setTestZ (s1.acc s.mw) v s1).setFlagN v.msb).setFlagV (v.getLsbD (s.mw.bits - 2))).advance m.length)

/-- A shift or rotate of a value, with n, z and c (R195): `f` gives the result and the bit shifted out. -/
def shifted {n : Nat} (f : BitVec n → Bool → BitVec n × Bool) (v : BitVec n) (s : State) : BitVec n × State :=
  match f v s.flagC with
  | (r, out) => (r, (s.setNZ r).setFlagC out)

/-- TRB: the bits set in the accumulator are cleared in memory (R200). -/
def testReset (w : Width) (v : BitVec w.bits) (s : State) : BitVec w.bits × State :=
  (v &&& ~~~(s.acc w), setTestZ (s.acc w) v s)

/-- TSB: the bits set in the accumulator are set in memory (R201). -/
def testSet (w : Width) (v : BitVec w.bits) (s : State) : BitVec w.bits × State :=
  (v ||| s.acc w, setTestZ (s.acc w) v s)

/-- 21 `AND (dp,X)` (R191, R132). -/
def execAndDpXInd (dp : Byte) (s : State) : Result :=
  andA (.mem (.dpXInd dp)) s

/-- 23 `AND sr,S` (R191, R135). -/
def execAndSr (sr : Byte) (s : State) : Result :=
  andA (.mem (.sr sr)) s

/-- 25 `AND dp` (R191, R124). -/
def execAndDp (dp : Byte) (s : State) : Result :=
  andA (.mem (.dp dp)) s

/-- 27 `AND [dp]` (R191, R126). -/
def execAndDpIndLong (dp : Byte) (s : State) : Result :=
  andA (.mem (.dpIndLong dp)) s

/-- 29 `AND #const` (R191, R121). -/
def execAndImm (imm : Word) (s : State) : Result :=
  andA (.imm imm) s

/-- 2D `AND addr` (R191, R122). -/
def execAndAbs (addr : Word) (s : State) : Result :=
  andA (.mem (.abs addr)) s

/-- 2F `AND long` (R191, R123). -/
def execAndLong (addr : Addr) (s : State) : Result :=
  andA (.mem (.long addr)) s

/-- 31 `AND (dp),Y` (R191, R133). -/
def execAndDpIndY (dp : Byte) (s : State) : Result :=
  andA (.mem (.dpIndY dp)) s

/-- 32 `AND (dp)` (R191, R125). -/
def execAndDpInd (dp : Byte) (s : State) : Result :=
  andA (.mem (.dpInd dp)) s

/-- 33 `AND (sr,S),Y` (R191, R136). -/
def execAndSrIndY (sr : Byte) (s : State) : Result :=
  andA (.mem (.srIndY sr)) s

/-- 35 `AND dp,X` (R191, R130). -/
def execAndDpX (dp : Byte) (s : State) : Result :=
  andA (.mem (.dpX dp)) s

/-- 37 `AND [dp],Y` (R191, R134). -/
def execAndDpIndLongY (dp : Byte) (s : State) : Result :=
  andA (.mem (.dpIndLongY dp)) s

/-- 39 `AND addr,Y` (R191, R129). -/
def execAndAbsY (addr : Word) (s : State) : Result :=
  andA (.mem (.absY addr)) s

/-- 3D `AND addr,X` (R191, R127). -/
def execAndAbsX (addr : Word) (s : State) : Result :=
  andA (.mem (.absX addr)) s

/-- 3F `AND long,X` (R191, R128). -/
def execAndLongX (addr : Addr) (s : State) : Result :=
  andA (.mem (.longX addr)) s

/-- 24 `BIT dp` (R192, R124). -/
def execBitDp (dp : Byte) (s : State) : Result :=
  bitMem (.dp dp) s

/-- 2C `BIT addr` (R192, R122). -/
def execBitAbs (addr : Word) (s : State) : Result :=
  bitMem (.abs addr) s

/-- 34 `BIT dp,X` (R192, R130). -/
def execBitDpX (dp : Byte) (s : State) : Result :=
  bitMem (.dpX dp) s

/-- 3C `BIT addr,X` (R192, R127). -/
def execBitAbsX (addr : Word) (s : State) : Result :=
  bitMem (.absX addr) s

/-- 89 `BIT #const` (R192, R121): z only. -/
def execBitImm (imm : Word) (s : State) : Result :=
  withOperand s.mw (.imm imm) s fun v s1 =>
    .next ((setTestZ (s1.acc s.mw) v s1).advance (Operand.length s.mw (.imm imm)))

/-- 41 `EOR (dp,X)` (R193, R132). -/
def execEorDpXInd (dp : Byte) (s : State) : Result :=
  eorA (.mem (.dpXInd dp)) s

/-- 43 `EOR sr,S` (R193, R135). -/
def execEorSr (sr : Byte) (s : State) : Result :=
  eorA (.mem (.sr sr)) s

/-- 45 `EOR dp` (R193, R124). -/
def execEorDp (dp : Byte) (s : State) : Result :=
  eorA (.mem (.dp dp)) s

/-- 47 `EOR [dp]` (R193, R126). -/
def execEorDpIndLong (dp : Byte) (s : State) : Result :=
  eorA (.mem (.dpIndLong dp)) s

/-- 49 `EOR #const` (R193, R121). -/
def execEorImm (imm : Word) (s : State) : Result :=
  eorA (.imm imm) s

/-- 4D `EOR addr` (R193, R122). -/
def execEorAbs (addr : Word) (s : State) : Result :=
  eorA (.mem (.abs addr)) s

/-- 4F `EOR long` (R193, R123). -/
def execEorLong (addr : Addr) (s : State) : Result :=
  eorA (.mem (.long addr)) s

/-- 51 `EOR (dp),Y` (R193, R133). -/
def execEorDpIndY (dp : Byte) (s : State) : Result :=
  eorA (.mem (.dpIndY dp)) s

/-- 52 `EOR (dp)` (R193, R125). -/
def execEorDpInd (dp : Byte) (s : State) : Result :=
  eorA (.mem (.dpInd dp)) s

/-- 53 `EOR (sr,S),Y` (R193, R136). -/
def execEorSrIndY (sr : Byte) (s : State) : Result :=
  eorA (.mem (.srIndY sr)) s

/-- 55 `EOR dp,X` (R193, R130). -/
def execEorDpX (dp : Byte) (s : State) : Result :=
  eorA (.mem (.dpX dp)) s

/-- 57 `EOR [dp],Y` (R193, R134). -/
def execEorDpIndLongY (dp : Byte) (s : State) : Result :=
  eorA (.mem (.dpIndLongY dp)) s

/-- 59 `EOR addr,Y` (R193, R129). -/
def execEorAbsY (addr : Word) (s : State) : Result :=
  eorA (.mem (.absY addr)) s

/-- 5D `EOR addr,X` (R193, R127). -/
def execEorAbsX (addr : Word) (s : State) : Result :=
  eorA (.mem (.absX addr)) s

/-- 5F `EOR long,X` (R193, R128). -/
def execEorLongX (addr : Addr) (s : State) : Result :=
  eorA (.mem (.longX addr)) s

/-- 01 `ORA (dp,X)` (R194, R132). -/
def execOraDpXInd (dp : Byte) (s : State) : Result :=
  oraA (.mem (.dpXInd dp)) s

/-- 03 `ORA sr,S` (R194, R135). -/
def execOraSr (sr : Byte) (s : State) : Result :=
  oraA (.mem (.sr sr)) s

/-- 05 `ORA dp` (R194, R124). -/
def execOraDp (dp : Byte) (s : State) : Result :=
  oraA (.mem (.dp dp)) s

/-- 07 `ORA [dp]` (R194, R126). -/
def execOraDpIndLong (dp : Byte) (s : State) : Result :=
  oraA (.mem (.dpIndLong dp)) s

/-- 09 `ORA #const` (R194, R121). -/
def execOraImm (imm : Word) (s : State) : Result :=
  oraA (.imm imm) s

/-- 0D `ORA addr` (R194, R122). -/
def execOraAbs (addr : Word) (s : State) : Result :=
  oraA (.mem (.abs addr)) s

/-- 0F `ORA long` (R194, R123). -/
def execOraLong (addr : Addr) (s : State) : Result :=
  oraA (.mem (.long addr)) s

/-- 11 `ORA (dp),Y` (R194, R133). -/
def execOraDpIndY (dp : Byte) (s : State) : Result :=
  oraA (.mem (.dpIndY dp)) s

/-- 12 `ORA (dp)` (R194, R125). -/
def execOraDpInd (dp : Byte) (s : State) : Result :=
  oraA (.mem (.dpInd dp)) s

/-- 13 `ORA (sr,S),Y` (R194, R136). -/
def execOraSrIndY (sr : Byte) (s : State) : Result :=
  oraA (.mem (.srIndY sr)) s

/-- 15 `ORA dp,X` (R194, R130). -/
def execOraDpX (dp : Byte) (s : State) : Result :=
  oraA (.mem (.dpX dp)) s

/-- 17 `ORA [dp],Y` (R194, R134). -/
def execOraDpIndLongY (dp : Byte) (s : State) : Result :=
  oraA (.mem (.dpIndLongY dp)) s

/-- 19 `ORA addr,Y` (R194, R129). -/
def execOraAbsY (addr : Word) (s : State) : Result :=
  oraA (.mem (.absY addr)) s

/-- 1D `ORA addr,X` (R194, R127). -/
def execOraAbsX (addr : Word) (s : State) : Result :=
  oraA (.mem (.absX addr)) s

/-- 1F `ORA long,X` (R194, R128). -/
def execOraLongX (addr : Addr) (s : State) : Result :=
  oraA (.mem (.longX addr)) s

/-- 06 `ASL dp` (R196, R124). -/
def execAslDp (dp : Byte) (s : State) : Result :=
  modify s.mw (.dp dp) s (shifted shiftAsl)

/-- 0A `ASL A` (R196, R137). -/
def execAslA (s : State) : Result :=
  modifyAcc s.mw s (shifted shiftAsl)

/-- 0E `ASL addr` (R196, R122). -/
def execAslAbs (addr : Word) (s : State) : Result :=
  modify s.mw (.abs addr) s (shifted shiftAsl)

/-- 16 `ASL dp,X` (R196, R130). -/
def execAslDpX (dp : Byte) (s : State) : Result :=
  modify s.mw (.dpX dp) s (shifted shiftAsl)

/-- 1E `ASL addr,X` (R196, R127). -/
def execAslAbsX (addr : Word) (s : State) : Result :=
  modify s.mw (.absX addr) s (shifted shiftAsl)

/-- 46 `LSR dp` (R197, R124). -/
def execLsrDp (dp : Byte) (s : State) : Result :=
  modify s.mw (.dp dp) s (shifted shiftLsr)

/-- 4A `LSR A` (R197, R137). -/
def execLsrA (s : State) : Result :=
  modifyAcc s.mw s (shifted shiftLsr)

/-- 4E `LSR addr` (R197, R122). -/
def execLsrAbs (addr : Word) (s : State) : Result :=
  modify s.mw (.abs addr) s (shifted shiftLsr)

/-- 56 `LSR dp,X` (R197, R130). -/
def execLsrDpX (dp : Byte) (s : State) : Result :=
  modify s.mw (.dpX dp) s (shifted shiftLsr)

/-- 5E `LSR addr,X` (R197, R127). -/
def execLsrAbsX (addr : Word) (s : State) : Result :=
  modify s.mw (.absX addr) s (shifted shiftLsr)

/-- 26 `ROL dp` (R198, R124). -/
def execRolDp (dp : Byte) (s : State) : Result :=
  modify s.mw (.dp dp) s (shifted shiftRol)

/-- 2A `ROL A` (R198, R137). -/
def execRolA (s : State) : Result :=
  modifyAcc s.mw s (shifted shiftRol)

/-- 2E `ROL addr` (R198, R122). -/
def execRolAbs (addr : Word) (s : State) : Result :=
  modify s.mw (.abs addr) s (shifted shiftRol)

/-- 36 `ROL dp,X` (R198, R130). -/
def execRolDpX (dp : Byte) (s : State) : Result :=
  modify s.mw (.dpX dp) s (shifted shiftRol)

/-- 3E `ROL addr,X` (R198, R127). -/
def execRolAbsX (addr : Word) (s : State) : Result :=
  modify s.mw (.absX addr) s (shifted shiftRol)

/-- 66 `ROR dp` (R199, R124). -/
def execRorDp (dp : Byte) (s : State) : Result :=
  modify s.mw (.dp dp) s (shifted shiftRor)

/-- 6A `ROR A` (R199, R137). -/
def execRorA (s : State) : Result :=
  modifyAcc s.mw s (shifted shiftRor)

/-- 6E `ROR addr` (R199, R122). -/
def execRorAbs (addr : Word) (s : State) : Result :=
  modify s.mw (.abs addr) s (shifted shiftRor)

/-- 76 `ROR dp,X` (R199, R130). -/
def execRorDpX (dp : Byte) (s : State) : Result :=
  modify s.mw (.dpX dp) s (shifted shiftRor)

/-- 7E `ROR addr,X` (R199, R127). -/
def execRorAbsX (addr : Word) (s : State) : Result :=
  modify s.mw (.absX addr) s (shifted shiftRor)

/-- 14 `TRB dp` (R200, R124). -/
def execTrbDp (dp : Byte) (s : State) : Result :=
  modify s.mw (.dp dp) s (testReset s.mw)

/-- 1C `TRB addr` (R200, R122). -/
def execTrbAbs (addr : Word) (s : State) : Result :=
  modify s.mw (.abs addr) s (testReset s.mw)

/-- 04 `TSB dp` (R201, R124). -/
def execTsbDp (dp : Byte) (s : State) : Result :=
  modify s.mw (.dp dp) s (testSet s.mw)

/-- 0C `TSB addr` (R201, R122). -/
def execTsbAbs (addr : Word) (s : State) : Result :=
  modify s.mw (.abs addr) s (testSet s.mw)

end Sys2Proof.Machine
end

