-- ==== Sys2Proof/Machine/Flow.lean ====
section
/-! DEFINITION. Program flow: the flag instructions, REP, SEP, the compares, branches, jumps and subroutines (spec file
43_program_flow.md). -/

namespace Sys2Proof.Machine

/-- 18 `CLC` (R220, R138). -/
def execClc (s : State) : Result :=
  .next ((s.setFlagC false).advance 1)

/-- 38 `SEC` (R221, R138). -/
def execSec (s : State) : Result :=
  .next ((s.setFlagC true).advance 1)

/-- D8 `CLD` (R222, R138). -/
def execCld (s : State) : Result :=
  .next ((s.setFlagD false).advance 1)

/-- F8 `SED` (R223, R138). -/
def execSed (s : State) : Result :=
  .next ((s.setFlagD true).advance 1)

/-- 58 `CLI` (R224, R138). -/
def execCli (s : State) : Result :=
  .next ((s.setFlagI false).advance 1)

/-- 78 `SEI` (R225, R138). -/
def execSei (s : State) : Result :=
  .next ((s.setFlagI true).advance 1)

/-- B8 `CLV` (R226, R138). -/
def execClv (s : State) : Result :=
  .next ((s.setFlagV false).advance 1)

/-- The operand bits REP and SEP act on: with e = 1, bits 5 and 4 are protected (R227, R228). -/
def statusMask (k : Byte) (s : State) : Byte := if s.e then k &&& 0xCF#8 else k

/-- C2 `REP #const` (R227, R121). -/
def execRep (k : Byte) (s : State) : Result :=
  .next (State.advance { s with p := s.p &&& ~~~(statusMask k s) } 2)

/-- SEP once the mask is formed: if x becomes 1 the high bytes of X and Y are cleared (R228). -/
def setStatusBits (k : Byte) (s : State) : State :=
  let s1 := { s with p := s.p ||| k }
  if s1.flagX then s1.clearIndexHigh else s1

/-- E2 `SEP #const` (R228, R121). -/
def execSep (k : Byte) (s : State) : Result :=
  .next ((setStatusBits (statusMask k s) s).advance 2)

/-- CMP with an operand form (R229). -/
def cmpA (o : Operand) (s : State) : Result :=
  withOperand s.mw o s fun m s1 => .next ((s1.setCompare (s1.acc s.mw) m).advance (o.length s.mw))

/-- CPX with an operand form (R230). -/
def cmpX (o : Operand) (s : State) : Result :=
  withOperand s.xw o s fun m s1 => .next ((s1.setCompare (s1.xAt s.xw) m).advance (o.length s.xw))

/-- CPY with an operand form (R231). -/
def cmpY (o : Operand) (s : State) : Result :=
  withOperand s.xw o s fun m s1 => .next ((s1.setCompare (s1.yAt s.xw) m).advance (o.length s.xw))

/-- C1 `CMP (dp,X)` (R229, R132). -/
def execCmpDpXInd (dp : Byte) (s : State) : Result :=
  cmpA (.mem (.dpXInd dp)) s

/-- C3 `CMP sr,S` (R229, R135). -/
def execCmpSr (sr : Byte) (s : State) : Result :=
  cmpA (.mem (.sr sr)) s

/-- C5 `CMP dp` (R229, R124). -/
def execCmpDp (dp : Byte) (s : State) : Result :=
  cmpA (.mem (.dp dp)) s

/-- C7 `CMP [dp]` (R229, R126). -/
def execCmpDpIndLong (dp : Byte) (s : State) : Result :=
  cmpA (.mem (.dpIndLong dp)) s

/-- C9 `CMP #const` (R229, R121). -/
def execCmpImm (imm : Word) (s : State) : Result :=
  cmpA (.imm imm) s

/-- CD `CMP addr` (R229, R122). -/
def execCmpAbs (addr : Word) (s : State) : Result :=
  cmpA (.mem (.abs addr)) s

/-- CF `CMP long` (R229, R123). -/
def execCmpLong (addr : Addr) (s : State) : Result :=
  cmpA (.mem (.long addr)) s

/-- D1 `CMP (dp),Y` (R229, R133). -/
def execCmpDpIndY (dp : Byte) (s : State) : Result :=
  cmpA (.mem (.dpIndY dp)) s

/-- D2 `CMP (dp)` (R229, R125). -/
def execCmpDpInd (dp : Byte) (s : State) : Result :=
  cmpA (.mem (.dpInd dp)) s

/-- D3 `CMP (sr,S),Y` (R229, R136). -/
def execCmpSrIndY (sr : Byte) (s : State) : Result :=
  cmpA (.mem (.srIndY sr)) s

/-- D5 `CMP dp,X` (R229, R130). -/
def execCmpDpX (dp : Byte) (s : State) : Result :=
  cmpA (.mem (.dpX dp)) s

/-- D7 `CMP [dp],Y` (R229, R134). -/
def execCmpDpIndLongY (dp : Byte) (s : State) : Result :=
  cmpA (.mem (.dpIndLongY dp)) s

/-- D9 `CMP addr,Y` (R229, R129). -/
def execCmpAbsY (addr : Word) (s : State) : Result :=
  cmpA (.mem (.absY addr)) s

/-- DD `CMP addr,X` (R229, R127). -/
def execCmpAbsX (addr : Word) (s : State) : Result :=
  cmpA (.mem (.absX addr)) s

/-- DF `CMP long,X` (R229, R128). -/
def execCmpLongX (addr : Addr) (s : State) : Result :=
  cmpA (.mem (.longX addr)) s

/-- E0 `CPX #const` (R230, R121). -/
def execCpxImm (imm : Word) (s : State) : Result :=
  cmpX (.imm imm) s

/-- E4 `CPX dp` (R230, R124). -/
def execCpxDp (dp : Byte) (s : State) : Result :=
  cmpX (.mem (.dp dp)) s

/-- EC `CPX addr` (R230, R122). -/
def execCpxAbs (addr : Word) (s : State) : Result :=
  cmpX (.mem (.abs addr)) s

/-- C0 `CPY #const` (R231, R121). -/
def execCpyImm (imm : Word) (s : State) : Result :=
  cmpY (.imm imm) s

/-- C4 `CPY dp` (R231, R124). -/
def execCpyDp (dp : Byte) (s : State) : Result :=
  cmpY (.mem (.dp dp)) s

/-- CC `CPY addr` (R231, R122). -/
def execCpyAbs (addr : Word) (s : State) : Result :=
  cmpY (.mem (.abs addr)) s

/-- A conditional branch (R232): to the target if the condition holds, otherwise past the instruction. -/
def branchIf (cond : Bool) (disp : Byte) (s : State) : Result :=
  .next (if cond then s.jump (relTarget disp s) else s.advance 2)

/-- 90 `BCC nearlabel` (R233, R139). -/
def execBcc (disp : Byte) (s : State) : Result :=
  branchIf (!s.flagC) disp s

/-- B0 `BCS nearlabel` (R234, R139). -/
def execBcs (disp : Byte) (s : State) : Result :=
  branchIf (s.flagC) disp s

/-- F0 `BEQ nearlabel` (R235, R139). -/
def execBeq (disp : Byte) (s : State) : Result :=
  branchIf (s.flagZ) disp s

/-- D0 `BNE nearlabel` (R236, R139). -/
def execBne (disp : Byte) (s : State) : Result :=
  branchIf (!s.flagZ) disp s

/-- 30 `BMI nearlabel` (R237, R139). -/
def execBmi (disp : Byte) (s : State) : Result :=
  branchIf (s.flagN) disp s

/-- 10 `BPL nearlabel` (R238, R139). -/
def execBpl (disp : Byte) (s : State) : Result :=
  branchIf (!s.flagN) disp s

/-- 50 `BVC nearlabel` (R239, R139). -/
def execBvc (disp : Byte) (s : State) : Result :=
  branchIf (!s.flagV) disp s

/-- 70 `BVS nearlabel` (R240, R139). -/
def execBvs (disp : Byte) (s : State) : Result :=
  branchIf (s.flagV) disp s

/-- 80 `BRA nearlabel` (R241, R139). -/
def execBra (disp : Byte) (s : State) : Result :=
  .next (s.jump (relTarget disp s))

/-- 82 `BRL label` (R242, R140). -/
def execBrl (disp : Word) (s : State) : Result :=
  .next (s.jump (relLongTarget disp s))

/-- 4C `JMP addr` (R243, R122). -/
def execJmpAbs (addr : Word) (s : State) : Result :=
  .next (s.jump addr)

/-- 5C `JMP long` (R246, R123). -/
def execJmpLong (addr : Addr) (s : State) : Result :=
  .next (s.jumpLong (bankOf addr) (offsetOf addr))

/-- 6C `JMP (addr)` (R244, R141). -/
def execJmpAbsInd (addr : Word) (s : State) : Result :=
  if absIndRefused addr s then .refused .jmpIndirectLowByteFF
  else
    match read16 (absIndLoc addr s) s with
    | (target, s1) => .next (s1.jump target)

/-- 7C `JMP (addr,X)` (R245, R142). -/
def execJmpAbsXInd (addr : Word) (s : State) : Result :=
  match read16 (absXIndLoc addr s) s with
  | (target, s1) => .next (s1.jump target)

/-- DC `JMP [addr]` (R247, R143). -/
def execJmpAbsIndLong (addr : Word) (s : State) : Result :=
  match read24 (absIndLongLoc addr) s with
  | (target, s1) => .next (s1.jumpLong (bankOf target) (offsetOf target))

/-- 20 `JSR addr` (R248, R122). -/
def execJsrAbs (addr : Word) (s : State) : Result :=
  .next ((push16 (s.pc + 2#16) s).jump addr)

/-- FC `JSR (addr,X)` (R249, R142). -/
def execJsrAbsXInd (addr : Word) (s : State) : Result :=
  if pushWraps 2 s then .refused .stackWrapsPage1
  else
    match read16 (absXIndLoc addr s) (push16 (s.pc + 2#16) s) with
    | (target, s1) => .next (s1.jump target)

/-- 22 `JSL long` (R250, R123). -/
def execJsl (addr : Addr) (s : State) : Result :=
  if pushWraps 3 s then .refused .stackWrapsPage1
  else .next ((push16 (s.pc + 3#16) (push8 s.pbr s)).jumpLong (bankOf addr) (offsetOf addr))

/-- 60 `RTS` (R251, R138). -/
def execRts (s : State) : Result :=
  match pull16 s with
  | (t, s1) => .next (s1.jump (t + 1#16))

/-- 6B `RTL` (R252, R138). -/
def execRtl (s : State) : Result :=
  if pullWraps 3 s then .refused .stackWrapsPage1
  else
    match pull16 s with
    | (t, s1) =>
      match pull8 s1 with
      | (bank, s2) => .next (s2.jumpLong bank (t + 1#16))

end Sys2Proof.Machine
end

