-- ==== Sys2Proof/Machine/Interrupts.lean ====
section
/-! DEFINITION. The interrupt instructions BRK, COP, RTI, WAI (spec file 46_interrupt_instructions.md). -/

namespace Sys2Proof.Machine

/-- 00 `BRK` (R340, R386); the signature byte is skipped. -/
def execBrk (_sig : Byte) (s : State) : Result :=
  .next (interrupt .brk (s.pc + 2#16) s)

/-- 02 `COP const` (R341, R386); the signature byte is not interpreted. -/
def execCop (_sig : Byte) (s : State) : Result :=
  .next (interrupt .cop (s.pc + 2#16) s)

/-- 40 `RTI` (R342, R138). -/
def execRti (s : State) : Result :=
  .next (returnFromInterrupt s)

/-- CB `WAI` (R343, R138). -/
def execWai (s : State) : Result :=
  .next (State.advance { s with run := .waiting } 1)

end Sys2Proof.Machine
end

