-- ==== Sys2Proof/Machine/Misc.lean ====
section
/-! DEFINITION. Miscellaneous instructions: the block moves, XCE, NOP, WDM, STP (spec file 47_miscellaneous.md). -/

namespace Sys2Proof.Machine

/-- The source and destination banks of a block move (R360). -/
def moveBanks (bank1 bank2 : Byte) (s : State) : Byte × Byte :=
  match s.cfg.mvnOrder with
  | .srcFirst => (bank1, bank2)
  | .dstFirst => (bank2, bank1)

/-- One byte of a block move (R360): the index registers go by `delta`; PC moves on when C was 0. -/
def moveByte (delta : Int) (bank1 bank2 : Byte) (s : State) : State :=
  match moveBanks bank1 bank2 s with
  | (src, dst) =>
    match readByte (fullAddr src s.x) s with
    | (v, s1) =>
      let s2 := { writeByte (fullAddr dst s1.y) v s1 with dbr := dst }
      let s3 := (s2.setX (s2.xAt s.xw + BitVec.ofInt s.xw.bits delta)).setY (s2.yAt s.xw + BitVec.ofInt s.xw.bits delta)
      let s4 := s3.setC (s3.c - 1#16)
      if s4.c = 0xFFFF#16 then s4.advance 3 else s4

/-- 54 `MVN srcbk,dstbk` (R361, R148). -/
def execMvn (bank1 : Byte) (bank2 : Byte) (s : State) : Result :=
  .next (moveByte 1 bank1 bank2 s)

/-- 44 `MVP srcbk,dstbk` (R362, R148). -/
def execMvp (bank1 : Byte) (bank2 : Byte) (s : State) : Result :=
  .next (moveByte (-1) bank1 bank2 s)

/-- XCE: e and c change places; what entering a mode forces (R363). -/
def exchangeCarryEmulation (s : State) : State :=
  let s1 := { s.setFlagC s.e with e := s.flagC }
  if s.flagC then
    let s2 := ((s1.setFlagM true).setFlagX true).clearIndexHigh
    { s2 with sp := 0x01#8 ++ low s2.sp }
  else if s.e then (s1.setFlagM true).setFlagX true
  else s1

/-- FB `XCE` (R363, R138). -/
def execXce (s : State) : Result :=
  .next ((exchangeCarryEmulation s).advance 1)

/-- EA `NOP` (R364, R138). -/
def execNop (s : State) : Result :=
  .next (s.advance 1)

/-- 42 `WDM` (R365): a 2-byte no-operation; the second byte is ignored. -/
def execWdm (_ignored : Byte) (s : State) : Result :=
  .next (s.advance 2)

/-- DB `STP` (R366, R138). -/
def execStp (s : State) : Result :=
  .next (State.advance { s with run := .stopped } 1)

end Sys2Proof.Machine
end

