-- ==== Sys2Proof/Machine/Registers.lean ====
section
/-! DEFINITION. Register operations: loads, stores, transfers and XBA (spec file 44_registers.md). `setXNZ` and `setYNZ` are those
of the arithmetic family. -/

namespace Sys2Proof.Machine

/-- LDA with an operand form (R271). -/
def loadA (o : Operand) (s : State) : Result :=
  withOperand s.mw o s fun m s1 => .next (((s1.setNZ m).setAcc s.mw m).advance (o.length s.mw))

/-- LDX with an operand form (R272). -/
def loadX (o : Operand) (s : State) : Result :=
  withOperand s.xw o s fun m s1 => .next ((setXNZ m s1).advance (o.length s.xw))

/-- LDY with an operand form (R273). -/
def loadY (o : Operand) (s : State) : Result :=
  withOperand s.xw o s fun m s1 => .next ((setYNZ m s1).advance (o.length s.xw))

/-- Opcodes BE and B6: the index register is the parameter `LDX_INDEX` (R272). -/
def loadXIndexed (byX byY : AddrMode) (s : State) : Result :=
  match s.cfg.ldxIndex with
  | .x => loadX (.mem byX) s
  | .y => loadX (.mem byY) s
  | .refuse => .refused .ldxIndexInDoubt

/-- A1 `LDA (dp,X)` (R271, R132). -/
def execLdaDpXInd (dp : Byte) (s : State) : Result :=
  loadA (.mem (.dpXInd dp)) s

/-- A3 `LDA sr,S` (R271, R135). -/
def execLdaSr (sr : Byte) (s : State) : Result :=
  loadA (.mem (.sr sr)) s

/-- A5 `LDA dp` (R271, R124). -/
def execLdaDp (dp : Byte) (s : State) : Result :=
  loadA (.mem (.dp dp)) s

/-- A7 `LDA [dp]` (R271, R126). -/
def execLdaDpIndLong (dp : Byte) (s : State) : Result :=
  loadA (.mem (.dpIndLong dp)) s

/-- A9 `LDA #const` (R271, R121). -/
def execLdaImm (imm : Word) (s : State) : Result :=
  loadA (.imm imm) s

/-- AD `LDA addr` (R271, R122). -/
def execLdaAbs (addr : Word) (s : State) : Result :=
  loadA (.mem (.abs addr)) s

/-- AF `LDA long` (R271, R123). -/
def execLdaLong (addr : Addr) (s : State) : Result :=
  loadA (.mem (.long addr)) s

/-- B1 `LDA (dp),Y` (R271, R133). -/
def execLdaDpIndY (dp : Byte) (s : State) : Result :=
  loadA (.mem (.dpIndY dp)) s

/-- B2 `LDA (dp)` (R271, R125). -/
def execLdaDpInd (dp : Byte) (s : State) : Result :=
  loadA (.mem (.dpInd dp)) s

/-- B3 `LDA (sr,S),Y` (R271, R136). -/
def execLdaSrIndY (sr : Byte) (s : State) : Result :=
  loadA (.mem (.srIndY sr)) s

/-- B5 `LDA dp,X` (R271, R130). -/
def execLdaDpX (dp : Byte) (s : State) : Result :=
  loadA (.mem (.dpX dp)) s

/-- B7 `LDA [dp],Y` (R271, R134). -/
def execLdaDpIndLongY (dp : Byte) (s : State) : Result :=
  loadA (.mem (.dpIndLongY dp)) s

/-- B9 `LDA addr,Y` (R271, R129). -/
def execLdaAbsY (addr : Word) (s : State) : Result :=
  loadA (.mem (.absY addr)) s

/-- BD `LDA addr,X` (R271, R127). -/
def execLdaAbsX (addr : Word) (s : State) : Result :=
  loadA (.mem (.absX addr)) s

/-- BF `LDA long,X` (R271, R128). -/
def execLdaLongX (addr : Addr) (s : State) : Result :=
  loadA (.mem (.longX addr)) s

/-- A2 `LDX #const` (R272, R121). -/
def execLdxImm (imm : Word) (s : State) : Result :=
  loadX (.imm imm) s

/-- A6 `LDX dp` (R272, R124). -/
def execLdxDp (dp : Byte) (s : State) : Result :=
  loadX (.mem (.dp dp)) s

/-- AE `LDX addr` (R272, R122). -/
def execLdxAbs (addr : Word) (s : State) : Result :=
  loadX (.mem (.abs addr)) s

/-- B6 `LDX dp,X` (R272, R130). -/
def execLdxDpX (dp : Byte) (s : State) : Result :=
  loadXIndexed (.dpX dp) (.dpY dp) s

/-- BE `LDX addr,X` (R272, R127). -/
def execLdxAbsX (addr : Word) (s : State) : Result :=
  loadXIndexed (.absX addr) (.absY addr) s

/-- A0 `LDY #const` (R273, R121). -/
def execLdyImm (imm : Word) (s : State) : Result :=
  loadY (.imm imm) s

/-- A4 `LDY dp` (R273, R124). -/
def execLdyDp (dp : Byte) (s : State) : Result :=
  loadY (.mem (.dp dp)) s

/-- AC `LDY addr` (R273, R122). -/
def execLdyAbs (addr : Word) (s : State) : Result :=
  loadY (.mem (.abs addr)) s

/-- B4 `LDY dp,X` (R273, R130). -/
def execLdyDpX (dp : Byte) (s : State) : Result :=
  loadY (.mem (.dpX dp)) s

/-- BC `LDY addr,X` (R273, R127). -/
def execLdyAbsX (addr : Word) (s : State) : Result :=
  loadY (.mem (.absX addr)) s

/-- 81 `STA (dp,X)` (R274, R132). -/
def execStaDpXInd (dp : Byte) (s : State) : Result :=
  store s.mw (.dpXInd dp) (s.acc s.mw) s

/-- 83 `STA sr,S` (R274, R135). -/
def execStaSr (sr : Byte) (s : State) : Result :=
  store s.mw (.sr sr) (s.acc s.mw) s

/-- 85 `STA dp` (R274, R124). -/
def execStaDp (dp : Byte) (s : State) : Result :=
  store s.mw (.dp dp) (s.acc s.mw) s

/-- 87 `STA [dp]` (R274, R126). -/
def execStaDpIndLong (dp : Byte) (s : State) : Result :=
  store s.mw (.dpIndLong dp) (s.acc s.mw) s

/-- 8D `STA addr` (R274, R122). -/
def execStaAbs (addr : Word) (s : State) : Result :=
  store s.mw (.abs addr) (s.acc s.mw) s

/-- 8F `STA long` (R274, R123). -/
def execStaLong (addr : Addr) (s : State) : Result :=
  store s.mw (.long addr) (s.acc s.mw) s

/-- 91 `STA (dp),Y` (R274, R133). -/
def execStaDpIndY (dp : Byte) (s : State) : Result :=
  store s.mw (.dpIndY dp) (s.acc s.mw) s

/-- 92 `STA (dp)` (R274, R125). -/
def execStaDpInd (dp : Byte) (s : State) : Result :=
  store s.mw (.dpInd dp) (s.acc s.mw) s

/-- 93 `STA (sr,S),Y` (R274, R136). -/
def execStaSrIndY (sr : Byte) (s : State) : Result :=
  store s.mw (.srIndY sr) (s.acc s.mw) s

/-- 95 `STA dp,X` (R274, R130). -/
def execStaDpX (dp : Byte) (s : State) : Result :=
  store s.mw (.dpX dp) (s.acc s.mw) s

/-- 97 `STA [dp],Y` (R274, R134). -/
def execStaDpIndLongY (dp : Byte) (s : State) : Result :=
  store s.mw (.dpIndLongY dp) (s.acc s.mw) s

/-- 99 `STA addr,Y` (R274, R129). -/
def execStaAbsY (addr : Word) (s : State) : Result :=
  store s.mw (.absY addr) (s.acc s.mw) s

/-- 9D `STA addr,X` (R274, R127). -/
def execStaAbsX (addr : Word) (s : State) : Result :=
  store s.mw (.absX addr) (s.acc s.mw) s

/-- 9F `STA long,X` (R274, R128). -/
def execStaLongX (addr : Addr) (s : State) : Result :=
  store s.mw (.longX addr) (s.acc s.mw) s

/-- 86 `STX dp` (R275, R124). -/
def execStxDp (dp : Byte) (s : State) : Result :=
  store s.xw (.dp dp) (s.xAt s.xw) s

/-- 8E `STX addr` (R275, R122). -/
def execStxAbs (addr : Word) (s : State) : Result :=
  store s.xw (.abs addr) (s.xAt s.xw) s

/-- 96 `STX dp,Y` (R275, R131). -/
def execStxDpY (dp : Byte) (s : State) : Result :=
  store s.xw (.dpY dp) (s.xAt s.xw) s

/-- 84 `STY dp` (R276, R124). -/
def execStyDp (dp : Byte) (s : State) : Result :=
  store s.xw (.dp dp) (s.yAt s.xw) s

/-- 8C `STY addr` (R276, R122). -/
def execStyAbs (addr : Word) (s : State) : Result :=
  store s.xw (.abs addr) (s.yAt s.xw) s

/-- 94 `STY dp,X` (R276, R130). -/
def execStyDpX (dp : Byte) (s : State) : Result :=
  store s.xw (.dpX dp) (s.yAt s.xw) s

/-- 64 `STZ dp` (R277, R124). -/
def execStzDp (dp : Byte) (s : State) : Result :=
  store s.mw (.dp dp) 0 s

/-- 74 `STZ dp,X` (R277, R130). -/
def execStzDpX (dp : Byte) (s : State) : Result :=
  store s.mw (.dpX dp) 0 s

/-- 9C `STZ addr` (R277, R122). -/
def execStzAbs (addr : Word) (s : State) : Result :=
  store s.mw (.abs addr) 0 s

/-- 9E `STZ addr,X` (R277, R127). -/
def execStzAbsX (addr : Word) (s : State) : Result :=
  store s.mw (.absX addr) 0 s

/-- AA `TAX` (R279, R138). -/
def execTax (s : State) : Result :=
  .next ((setXNZ (atWidth s.xw s.c) s).advance 1)

/-- A8 `TAY` (R280, R138). -/
def execTay (s : State) : Result :=
  .next ((setYNZ (atWidth s.xw s.c) s).advance 1)

/-- 5B `TCD` (R281, R138). -/
def execTcd (s : State) : Result :=
  .next (State.advance { s.setNZ s.c with d := s.c } 1)

/-- 1B `TCS` (R282, R138). -/
def execTcs (s : State) : Result :=
  .next ((s.setS s.c).advance 1)

/-- 7B `TDC` (R283, R138). -/
def execTdc (s : State) : Result :=
  .next (((s.setNZ s.d).setC s.d).advance 1)

/-- 3B `TSC` (R284, R138). -/
def execTsc (s : State) : Result :=
  .next (((s.setNZ s.sp).setC s.sp).advance 1)

/-- BA `TSX` (R285, R138). -/
def execTsx (s : State) : Result :=
  .next ((setXNZ (atWidth s.xw s.sp) s).advance 1)

/-- 8A `TXA` (R286, R138). -/
def execTxa (s : State) : Result :=
  .next (((s.setNZ (s.xAt s.mw)).setAcc s.mw (s.xAt s.mw)).advance 1)

/-- 9A `TXS` (R287, R138). -/
def execTxs (s : State) : Result :=
  .next ((s.setS s.x).advance 1)

/-- 9B `TXY` (R288, R138). -/
def execTxy (s : State) : Result :=
  .next ((setYNZ (s.xAt s.xw) s).advance 1)

/-- 98 `TYA` (R289, R138). -/
def execTya (s : State) : Result :=
  .next (((s.setNZ (s.yAt s.mw)).setAcc s.mw (s.yAt s.mw)).advance 1)

/-- BB `TYX` (R290, R138). -/
def execTyx (s : State) : Result :=
  .next ((setXNZ (s.yAt s.xw) s).advance 1)

/-- EB `XBA` (R291, R138). -/
def execXba (s : State) : Result :=
  .next (State.advance { s.setNZ s.b with a := s.b, b := s.a } 1)

end Sys2Proof.Machine
end

