-- ==== Sys2Proof/Machine/Stack.lean ====
section
/-! DEFINITION. Stack operations: pulls and pushes (spec file 45_stack.md). -/

namespace Sys2Proof.Machine

/-- 68 `PLA` (R311, R138). -/
def execPla (s : State) : Result :=
  match pullAt s.mw s with
  | (t, s1) => .next (((s1.setNZ t).setAcc s.mw t).advance 1)

/-- AB `PLB` (R312, R138). -/
def execPlb (s : State) : Result :=
  if pullWraps 1 s then .refused .stackWrapsPage1
  else
    match pull8 s with
    | (t, s1) => .next (State.advance { s1.setNZ t with dbr := t } 1)

/-- 2B `PLD` (R313, R138). -/
def execPld (s : State) : Result :=
  if pullWraps 2 s then .refused .stackWrapsPage1
  else
    match pull16 s with
    | (t, s1) => .next (State.advance { s1.setNZ t with d := t } 1)

/-- 28 `PLP` (R314, R138). -/
def execPlp (s : State) : Result :=
  match pull8 s with
  | (t, s1) => .next ((restoreStatus t s1).advance 1)

/-- FA `PLX` (R315, R138). -/
def execPlx (s : State) : Result :=
  match pullAt s.xw s with
  | (t, s1) => .next (((s1.setNZ t).setX t).advance 1)

/-- 7A `PLY` (R316, R138). -/
def execPly (s : State) : Result :=
  match pullAt s.xw s with
  | (t, s1) => .next (((s1.setNZ t).setY t).advance 1)

/-- F4 `PEA addr` (R317, R144). -/
def execPea (addr : Word) (s : State) : Result :=
  if pushWraps 2 s then .refused .stackWrapsPage1
  else .next ((push16 addr s).advance 3)

/-- D4 `PEI (dp)` (R318, R145). -/
def execPei (dp : Byte) (s : State) : Result :=
  if dpNewCrosses dp 2 s then .refused .directPageNewModeCrossesPage
  else if pushWraps 2 s then .refused .stackWrapsPage1
  else
    match read16 (dpLocNew dp s) s with
    | (t, s1) => .next ((push16 t s1).advance 2)

/-- 62 `PER label` (R319, R146). -/
def execPer (disp : Word) (s : State) : Result :=
  if pushWraps 2 s then .refused .stackWrapsPage1
  else .next ((push16 (relLongTarget disp s) s).advance 3)

/-- 48 `PHA` (R320, R138). -/
def execPha (s : State) : Result :=
  .next ((pushAt s.mw (s.acc s.mw) s).advance 1)

/-- 8B `PHB` (R321, R138). -/
def execPhb (s : State) : Result :=
  .next ((push8 s.dbr s).advance 1)

/-- 0B `PHD` (R322, R138). -/
def execPhd (s : State) : Result :=
  if pushWraps 2 s then .refused .stackWrapsPage1
  else .next ((push16 s.d s).advance 1)

/-- 4B `PHK` (R323, R138). -/
def execPhk (s : State) : Result :=
  .next ((push8 s.pbr s).advance 1)

/-- 08 `PHP` (R324, R138). -/
def execPhp (s : State) : Result :=
  .next ((push8 s.p s).advance 1)

/-- DA `PHX` (R325, R138). -/
def execPhx (s : State) : Result :=
  .next ((pushAt s.xw (s.xAt s.xw) s).advance 1)

/-- 5A `PHY` (R326, R138). -/
def execPhy (s : State) : Result :=
  .next ((pushAt s.xw (s.yAt s.xw) s).advance 1)

end Sys2Proof.Machine
end

