-- ==== Sys2Proof/Syntax.lean ====
section
/-! DEFINITION. The instructions: one constructor for each row of spec/opcode_table.json (spec rule R110), first the rows with
operand bytes in the table's order, then the rows without (Lean's compiled code gives at most 244 constructors fields). A constructor's name is the mnemonic and the addressing mode; its arguments are the operand bytes as R92 assembles
them. A `#const` whose width follows m or x is one 16-bit field, its high byte 0 when one byte is encoded (R93, log 22). -/

namespace Sys2Proof

inductive Instr where
  /-- 00: `BRK` (Stack Interrupt), R340. -/
  | brk (sig : Byte)
  /-- 01: `ORA (dp,X)` (Direct Page Indexed Indirect X), R194. -/
  | oraDpXInd (dp : Byte)
  /-- 02: `COP const` (Stack Interrupt), R341. -/
  | cop (sig : Byte)
  /-- 03: `ORA sr,S` (Stack Relative), R194. -/
  | oraSr (sr : Byte)
  /-- 04: `TSB dp` (Direct Page), R201. -/
  | tsbDp (dp : Byte)
  /-- 05: `ORA dp` (Direct Page), R194. -/
  | oraDp (dp : Byte)
  /-- 06: `ASL dp` (Direct Page), R196. -/
  | aslDp (dp : Byte)
  /-- 07: `ORA [dp]` (Direct Page Indirect Long), R194. -/
  | oraDpIndLong (dp : Byte)
  /-- 09: `ORA #const` (Immediate), R194. -/
  | oraImm (imm : Word)
  /-- 0C: `TSB addr` (Absolute), R201. -/
  | tsbAbs (addr : Word)
  /-- 0D: `ORA addr` (Absolute), R194. -/
  | oraAbs (addr : Word)
  /-- 0E: `ASL addr` (Absolute), R196. -/
  | aslAbs (addr : Word)
  /-- 0F: `ORA long` (Absolute Long), R194. -/
  | oraLong (addr : Addr)
  /-- 10: `BPL nearlabel` (Program Counter Relative), R238. -/
  | bpl (disp : Byte)
  /-- 11: `ORA (dp),Y` (Direct Page Indirect Indexed Y), R194. -/
  | oraDpIndY (dp : Byte)
  /-- 12: `ORA (dp)` (Direct Page Indirect), R194. -/
  | oraDpInd (dp : Byte)
  /-- 13: `ORA (sr,S),Y` (Stack Relative Indirect Indexed Y), R194. -/
  | oraSrIndY (sr : Byte)
  /-- 14: `TRB dp` (Direct Page), R200. -/
  | trbDp (dp : Byte)
  /-- 15: `ORA dp,X` (Direct Page Indexed X), R194. -/
  | oraDpX (dp : Byte)
  /-- 16: `ASL dp,X` (Direct Page Indexed X), R196. -/
  | aslDpX (dp : Byte)
  /-- 17: `ORA [dp],Y` (Direct Page Indirect Long Indexed Y), R194. -/
  | oraDpIndLongY (dp : Byte)
  /-- 19: `ORA addr,Y` (Absolute Indexed Y), R194. -/
  | oraAbsY (addr : Word)
  /-- 1C: `TRB addr` (Absolute), R200. -/
  | trbAbs (addr : Word)
  /-- 1D: `ORA addr,X` (Absolute Indexed X), R194. -/
  | oraAbsX (addr : Word)
  /-- 1E: `ASL addr,X` (Absolute Indexed X), R196. -/
  | aslAbsX (addr : Word)
  /-- 1F: `ORA long,X` (Absolute Long Indexed X), R194. -/
  | oraLongX (addr : Addr)
  /-- 20: `JSR addr` (Absolute), R248. -/
  | jsrAbs (addr : Word)
  /-- 21: `AND (dp,X)` (Direct Page Indexed Indirect X), R191. -/
  | andDpXInd (dp : Byte)
  /-- 22: `JSL long` (Absolute Long), R250. -/
  | jsl (addr : Addr)
  /-- 23: `AND sr,S` (Stack Relative), R191. -/
  | andSr (sr : Byte)
  /-- 24: `BIT dp` (Direct Page), R192. -/
  | bitDp (dp : Byte)
  /-- 25: `AND dp` (Direct Page), R191. -/
  | andDp (dp : Byte)
  /-- 26: `ROL dp` (Direct Page), R198. -/
  | rolDp (dp : Byte)
  /-- 27: `AND [dp]` (Direct Page Indirect Long), R191. -/
  | andDpIndLong (dp : Byte)
  /-- 29: `AND #const` (Immediate), R191. -/
  | andImm (imm : Word)
  /-- 2C: `BIT addr` (Absolute), R192. -/
  | bitAbs (addr : Word)
  /-- 2D: `AND addr` (Absolute), R191. -/
  | andAbs (addr : Word)
  /-- 2E: `ROL addr` (Absolute), R198. -/
  | rolAbs (addr : Word)
  /-- 2F: `AND long` (Absolute Long), R191. -/
  | andLong (addr : Addr)
  /-- 30: `BMI nearlabel` (Program Counter Relative), R237. -/
  | bmi (disp : Byte)
  /-- 31: `AND (dp),Y` (Direct Page Indirect Indexed Y), R191. -/
  | andDpIndY (dp : Byte)
  /-- 32: `AND (dp)` (Direct Page Indirect), R191. -/
  | andDpInd (dp : Byte)
  /-- 33: `AND (sr,S),Y` (Stack Relative Indirect Indexed Y), R191. -/
  | andSrIndY (sr : Byte)
  /-- 34: `BIT dp,X` (Direct Page Indexed X), R192. -/
  | bitDpX (dp : Byte)
  /-- 35: `AND dp,X` (Direct Page Indexed X), R191. -/
  | andDpX (dp : Byte)
  /-- 36: `ROL dp,X` (Direct Page Indexed X), R198. -/
  | rolDpX (dp : Byte)
  /-- 37: `AND [dp],Y` (Direct Page Indirect Long Indexed Y), R191. -/
  | andDpIndLongY (dp : Byte)
  /-- 39: `AND addr,Y` (Absolute Indexed Y), R191. -/
  | andAbsY (addr : Word)
  /-- 3C: `BIT addr,X` (Absolute Indexed X), R192. -/
  | bitAbsX (addr : Word)
  /-- 3D: `AND addr,X` (Absolute Indexed X), R191. -/
  | andAbsX (addr : Word)
  /-- 3E: `ROL addr,X` (Absolute Indexed X), R198. -/
  | rolAbsX (addr : Word)
  /-- 3F: `AND long,X` (Absolute Long Indexed X), R191. -/
  | andLongX (addr : Addr)
  /-- 41: `EOR (dp,X)` (Direct Page Indexed Indirect X), R193. -/
  | eorDpXInd (dp : Byte)
  /-- 42: `WDM` (Implied), R365. -/
  | wdm (ignored : Byte)
  /-- 43: `EOR sr,S` (Stack Relative), R193. -/
  | eorSr (sr : Byte)
  /-- 44: `MVP srcbk,dstbk` (Block Move), R362. -/
  | mvp (bank1 : Byte) (bank2 : Byte)
  /-- 45: `EOR dp` (Direct Page), R193. -/
  | eorDp (dp : Byte)
  /-- 46: `LSR dp` (Direct Page), R197. -/
  | lsrDp (dp : Byte)
  /-- 47: `EOR [dp]` (Direct Page Indirect Long), R193. -/
  | eorDpIndLong (dp : Byte)
  /-- 49: `EOR #const` (Immediate), R193. -/
  | eorImm (imm : Word)
  /-- 4C: `JMP addr` (Absolute), R243. -/
  | jmpAbs (addr : Word)
  /-- 4D: `EOR addr` (Absolute), R193. -/
  | eorAbs (addr : Word)
  /-- 4E: `LSR addr` (Absolute), R197. -/
  | lsrAbs (addr : Word)
  /-- 4F: `EOR long` (Absolute Long), R193. -/
  | eorLong (addr : Addr)
  /-- 50: `BVC nearlabel` (Program Counter Relative), R239. -/
  | bvc (disp : Byte)
  /-- 51: `EOR (dp),Y` (Direct Page Indirect Indexed Y), R193. -/
  | eorDpIndY (dp : Byte)
  /-- 52: `EOR (dp)` (Direct Page Indirect), R193. -/
  | eorDpInd (dp : Byte)
  /-- 53: `EOR (sr,S),Y` (Stack Relative Indirect Indexed Y), R193. -/
  | eorSrIndY (sr : Byte)
  /-- 54: `MVN srcbk,dstbk` (Block Move), R361. -/
  | mvn (bank1 : Byte) (bank2 : Byte)
  /-- 55: `EOR dp,X` (Direct Page Indexed X), R193. -/
  | eorDpX (dp : Byte)
  /-- 56: `LSR dp,X` (Direct Page Indexed X), R197. -/
  | lsrDpX (dp : Byte)
  /-- 57: `EOR [dp],Y` (Direct Page Indirect Long Indexed Y), R193. -/
  | eorDpIndLongY (dp : Byte)
  /-- 59: `EOR addr,Y` (Absolute Indexed Y), R193. -/
  | eorAbsY (addr : Word)
  /-- 5C: `JMP long` (Absolute Long), R246. -/
  | jmpLong (addr : Addr)
  /-- 5D: `EOR addr,X` (Absolute Indexed X), R193. -/
  | eorAbsX (addr : Word)
  /-- 5E: `LSR addr,X` (Absolute Indexed X), R197. -/
  | lsrAbsX (addr : Word)
  /-- 5F: `EOR long,X` (Absolute Long Indexed X), R193. -/
  | eorLongX (addr : Addr)
  /-- 61: `ADC (dp,X)` (Direct Page Indexed Indirect X), R161. -/
  | adcDpXInd (dp : Byte)
  /-- 62: `PER label` (Stack PC Relative Long), R319. -/
  | per (disp : Word)
  /-- 63: `ADC sr,S` (Stack Relative), R161. -/
  | adcSr (sr : Byte)
  /-- 64: `STZ dp` (Direct Page), R277. -/
  | stzDp (dp : Byte)
  /-- 65: `ADC dp` (Direct Page), R161. -/
  | adcDp (dp : Byte)
  /-- 66: `ROR dp` (Direct Page), R199. -/
  | rorDp (dp : Byte)
  /-- 67: `ADC [dp]` (Direct Page Indirect Long), R161. -/
  | adcDpIndLong (dp : Byte)
  /-- 69: `ADC #const` (Immediate), R161. -/
  | adcImm (imm : Word)
  /-- 6C: `JMP (addr)` (Absolute Indirect), R244. -/
  | jmpAbsInd (addr : Word)
  /-- 6D: `ADC addr` (Absolute), R161. -/
  | adcAbs (addr : Word)
  /-- 6E: `ROR addr` (Absolute), R199. -/
  | rorAbs (addr : Word)
  /-- 6F: `ADC long` (Absolute Long), R161. -/
  | adcLong (addr : Addr)
  /-- 70: `BVS nearlabel` (Program Counter Relative), R240. -/
  | bvs (disp : Byte)
  /-- 71: `ADC (dp),Y` (Direct Page Indirect Indexed Y), R161. -/
  | adcDpIndY (dp : Byte)
  /-- 72: `ADC (dp)` (Direct Page Indirect), R161. -/
  | adcDpInd (dp : Byte)
  /-- 73: `ADC (sr,S),Y` (Stack Relative Indirect Indexed Y), R161. -/
  | adcSrIndY (sr : Byte)
  /-- 74: `STZ dp,X` (Direct Page Indexed X), R277. -/
  | stzDpX (dp : Byte)
  /-- 75: `ADC dp,X` (Direct Page Indexed X), R161. -/
  | adcDpX (dp : Byte)
  /-- 76: `ROR dp,X` (Direct Page Indexed X), R199. -/
  | rorDpX (dp : Byte)
  /-- 77: `ADC [dp],Y` (Direct Page Indirect Long Indexed Y), R161. -/
  | adcDpIndLongY (dp : Byte)
  /-- 79: `ADC addr,Y` (Absolute Indexed Y), R161. -/
  | adcAbsY (addr : Word)
  /-- 7C: `JMP (addr,X)` (Absolute Indexed Indirect), R245. -/
  | jmpAbsXInd (addr : Word)
  /-- 7D: `ADC addr,X` (Absolute Indexed X), R161. -/
  | adcAbsX (addr : Word)
  /-- 7E: `ROR addr,X` (Absolute Indexed X), R199. -/
  | rorAbsX (addr : Word)
  /-- 7F: `ADC long,X` (Absolute Long Indexed X), R161. -/
  | adcLongX (addr : Addr)
  /-- 80: `BRA nearlabel` (Program Counter Relative), R241. -/
  | bra (disp : Byte)
  /-- 81: `STA (dp,X)` (Direct Page Indexed Indirect X), R274. -/
  | staDpXInd (dp : Byte)
  /-- 82: `BRL label` (Program Counter Relative Long), R242. -/
  | brl (disp : Word)
  /-- 83: `STA sr,S` (Stack Relative), R274. -/
  | staSr (sr : Byte)
  /-- 84: `STY dp` (Direct Page), R276. -/
  | styDp (dp : Byte)
  /-- 85: `STA dp` (Direct Page), R274. -/
  | staDp (dp : Byte)
  /-- 86: `STX dp` (Direct Page), R275. -/
  | stxDp (dp : Byte)
  /-- 87: `STA [dp]` (Direct Page Indirect Long), R274. -/
  | staDpIndLong (dp : Byte)
  /-- 89: `BIT #const` (Immediate), R192. -/
  | bitImm (imm : Word)
  /-- 8C: `STY addr` (Absolute), R276. -/
  | styAbs (addr : Word)
  /-- 8D: `STA addr` (Absolute), R274. -/
  | staAbs (addr : Word)
  /-- 8E: `STX addr` (Absolute), R275. -/
  | stxAbs (addr : Word)
  /-- 8F: `STA long` (Absolute Long), R274. -/
  | staLong (addr : Addr)
  /-- 90: `BCC nearlabel` (Program Counter Relative), R233. -/
  | bcc (disp : Byte)
  /-- 91: `STA (dp),Y` (Direct Page Indirect Indexed Y), R274. -/
  | staDpIndY (dp : Byte)
  /-- 92: `STA (dp)` (Direct Page Indirect), R274. -/
  | staDpInd (dp : Byte)
  /-- 93: `STA (sr,S),Y` (Stack Relative Indirect Indexed Y), R274. -/
  | staSrIndY (sr : Byte)
  /-- 94: `STY dp,X` (Direct Page Indexed X), R276. -/
  | styDpX (dp : Byte)
  /-- 95: `STA dp,X` (Direct Page Indexed X), R274. -/
  | staDpX (dp : Byte)
  /-- 96: `STX dp,Y` (Direct Page Indexed Y), R275. -/
  | stxDpY (dp : Byte)
  /-- 97: `STA [dp],Y` (Direct Page Indirect Long Indexed Y), R274. -/
  | staDpIndLongY (dp : Byte)
  /-- 99: `STA addr,Y` (Absolute Indexed Y), R274. -/
  | staAbsY (addr : Word)
  /-- 9C: `STZ addr` (Absolute), R277. -/
  | stzAbs (addr : Word)
  /-- 9D: `STA addr,X` (Absolute Indexed X), R274. -/
  | staAbsX (addr : Word)
  /-- 9E: `STZ addr,X` (Absolute Indexed X), R277. -/
  | stzAbsX (addr : Word)
  /-- 9F: `STA long,X` (Absolute Long Indexed X), R274. -/
  | staLongX (addr : Addr)
  /-- A0: `LDY #const` (Immediate), R273. -/
  | ldyImm (imm : Word)
  /-- A1: `LDA (dp,X)` (Direct Page Indexed Indirect X), R271. -/
  | ldaDpXInd (dp : Byte)
  /-- A2: `LDX #const` (Immediate), R272. -/
  | ldxImm (imm : Word)
  /-- A3: `LDA sr,S` (Stack Relative), R271. -/
  | ldaSr (sr : Byte)
  /-- A4: `LDY dp` (Direct Page), R273. -/
  | ldyDp (dp : Byte)
  /-- A5: `LDA dp` (Direct Page), R271. -/
  | ldaDp (dp : Byte)
  /-- A6: `LDX dp` (Direct Page), R272. -/
  | ldxDp (dp : Byte)
  /-- A7: `LDA [dp]` (Direct Page Indirect Long), R271. -/
  | ldaDpIndLong (dp : Byte)
  /-- A9: `LDA #const` (Immediate), R271. -/
  | ldaImm (imm : Word)
  /-- AC: `LDY addr` (Absolute), R273. -/
  | ldyAbs (addr : Word)
  /-- AD: `LDA addr` (Absolute), R271. -/
  | ldaAbs (addr : Word)
  /-- AE: `LDX addr` (Absolute), R272. -/
  | ldxAbs (addr : Word)
  /-- AF: `LDA long` (Absolute Long), R271. -/
  | ldaLong (addr : Addr)
  /-- B0: `BCS nearlabel` (Program Counter Relative), R234. -/
  | bcs (disp : Byte)
  /-- B1: `LDA (dp),Y` (Direct Page Indirect Indexed Y), R271. -/
  | ldaDpIndY (dp : Byte)
  /-- B2: `LDA (dp)` (Direct Page Indirect), R271. -/
  | ldaDpInd (dp : Byte)
  /-- B3: `LDA (sr,S),Y` (Stack Relative Indirect Indexed Y), R271. -/
  | ldaSrIndY (sr : Byte)
  /-- B4: `LDY dp,X` (Direct Page Indexed X), R273. -/
  | ldyDpX (dp : Byte)
  /-- B5: `LDA dp,X` (Direct Page Indexed X), R271. -/
  | ldaDpX (dp : Byte)
  /-- B6: `LDX dp,X` (Direct Page Indexed X), R272. -/
  | ldxDpX (dp : Byte)
  /-- B7: `LDA [dp],Y` (Direct Page Indirect Long Indexed Y), R271. -/
  | ldaDpIndLongY (dp : Byte)
  /-- B9: `LDA addr,Y` (Absolute Indexed Y), R271. -/
  | ldaAbsY (addr : Word)
  /-- BC: `LDY addr,X` (Absolute Indexed X), R273. -/
  | ldyAbsX (addr : Word)
  /-- BD: `LDA addr,X` (Absolute Indexed X), R271. -/
  | ldaAbsX (addr : Word)
  /-- BE: `LDX addr,X` (Absolute Indexed X), R272. -/
  | ldxAbsX (addr : Word)
  /-- BF: `LDA long,X` (Absolute Long Indexed X), R271. -/
  | ldaLongX (addr : Addr)
  /-- C0: `CPY #const` (Immediate), R231. -/
  | cpyImm (imm : Word)
  /-- C1: `CMP (dp,X)` (Direct Page Indexed Indirect X), R229. -/
  | cmpDpXInd (dp : Byte)
  /-- C2: `REP #const` (Immediate), R227. -/
  | rep (k : Byte)
  /-- C3: `CMP sr,S` (Stack Relative), R229. -/
  | cmpSr (sr : Byte)
  /-- C4: `CPY dp` (Direct Page), R231. -/
  | cpyDp (dp : Byte)
  /-- C5: `CMP dp` (Direct Page), R229. -/
  | cmpDp (dp : Byte)
  /-- C6: `DEC dp` (Direct Page), R166. -/
  | decDp (dp : Byte)
  /-- C7: `CMP [dp]` (Direct Page Indirect Long), R229. -/
  | cmpDpIndLong (dp : Byte)
  /-- C9: `CMP #const` (Immediate), R229. -/
  | cmpImm (imm : Word)
  /-- CC: `CPY addr` (Absolute), R231. -/
  | cpyAbs (addr : Word)
  /-- CD: `CMP addr` (Absolute), R229. -/
  | cmpAbs (addr : Word)
  /-- CE: `DEC addr` (Absolute), R166. -/
  | decAbs (addr : Word)
  /-- CF: `CMP long` (Absolute Long), R229. -/
  | cmpLong (addr : Addr)
  /-- D0: `BNE nearlabel` (Program Counter Relative), R236. -/
  | bne (disp : Byte)
  /-- D1: `CMP (dp),Y` (Direct Page Indirect Indexed Y), R229. -/
  | cmpDpIndY (dp : Byte)
  /-- D2: `CMP (dp)` (Direct Page Indirect), R229. -/
  | cmpDpInd (dp : Byte)
  /-- D3: `CMP (sr,S),Y` (Stack Relative Indirect Indexed Y), R229. -/
  | cmpSrIndY (sr : Byte)
  /-- D4: `PEI (dp)` (Stack Direct Page Indirect), R318. -/
  | pei (dp : Byte)
  /-- D5: `CMP dp,X` (Direct Page Indexed X), R229. -/
  | cmpDpX (dp : Byte)
  /-- D6: `DEC dp,X` (Direct Page Indexed X), R166. -/
  | decDpX (dp : Byte)
  /-- D7: `CMP [dp],Y` (Direct Page Indirect Long Indexed Y), R229. -/
  | cmpDpIndLongY (dp : Byte)
  /-- D9: `CMP addr,Y` (Absolute Indexed Y), R229. -/
  | cmpAbsY (addr : Word)
  /-- DC: `JMP [addr]` (Absolute Indirect Long), R247. -/
  | jmpAbsIndLong (addr : Word)
  /-- DD: `CMP addr,X` (Absolute Indexed X), R229. -/
  | cmpAbsX (addr : Word)
  /-- DE: `DEC addr,X` (Absolute Indexed X), R166. -/
  | decAbsX (addr : Word)
  /-- DF: `CMP long,X` (Absolute Long Indexed X), R229. -/
  | cmpLongX (addr : Addr)
  /-- E0: `CPX #const` (Immediate), R230. -/
  | cpxImm (imm : Word)
  /-- E1: `SBC (dp,X)` (Direct Page Indexed Indirect X), R163. -/
  | sbcDpXInd (dp : Byte)
  /-- E2: `SEP #const` (Immediate), R228. -/
  | sep (k : Byte)
  /-- E3: `SBC sr,S` (Stack Relative), R163. -/
  | sbcSr (sr : Byte)
  /-- E4: `CPX dp` (Direct Page), R230. -/
  | cpxDp (dp : Byte)
  /-- E5: `SBC dp` (Direct Page), R163. -/
  | sbcDp (dp : Byte)
  /-- E6: `INC dp` (Direct Page), R169. -/
  | incDp (dp : Byte)
  /-- E7: `SBC [dp]` (Direct Page Indirect Long), R163. -/
  | sbcDpIndLong (dp : Byte)
  /-- E9: `SBC #const` (Immediate), R163. -/
  | sbcImm (imm : Word)
  /-- EC: `CPX addr` (Absolute), R230. -/
  | cpxAbs (addr : Word)
  /-- ED: `SBC addr` (Absolute), R163. -/
  | sbcAbs (addr : Word)
  /-- EE: `INC addr` (Absolute), R169. -/
  | incAbs (addr : Word)
  /-- EF: `SBC long` (Absolute Long), R163. -/
  | sbcLong (addr : Addr)
  /-- F0: `BEQ nearlabel` (Program Counter Relative), R235. -/
  | beq (disp : Byte)
  /-- F1: `SBC (dp),Y` (Direct Page Indirect Indexed Y), R163. -/
  | sbcDpIndY (dp : Byte)
  /-- F2: `SBC (dp)` (Direct Page Indirect), R163. -/
  | sbcDpInd (dp : Byte)
  /-- F3: `SBC (sr,S),Y` (Stack Relative Indirect Indexed Y), R163. -/
  | sbcSrIndY (sr : Byte)
  /-- F4: `PEA addr` (Stack Absolute), R317. -/
  | pea (addr : Word)
  /-- F5: `SBC dp,X` (Direct Page Indexed X), R163. -/
  | sbcDpX (dp : Byte)
  /-- F6: `INC dp,X` (Direct Page Indexed X), R169. -/
  | incDpX (dp : Byte)
  /-- F7: `SBC [dp],Y` (Direct Page Indirect Long Indexed Y), R163. -/
  | sbcDpIndLongY (dp : Byte)
  /-- F9: `SBC addr,Y` (Absolute Indexed Y), R163. -/
  | sbcAbsY (addr : Word)
  /-- FC: `JSR (addr,X)` (Absolute Indexed Indirect), R249. -/
  | jsrAbsXInd (addr : Word)
  /-- FD: `SBC addr,X` (Absolute Indexed X), R163. -/
  | sbcAbsX (addr : Word)
  /-- FE: `INC addr,X` (Absolute Indexed X), R169. -/
  | incAbsX (addr : Word)
  /-- FF: `SBC long,X` (Absolute Long Indexed X), R163. -/
  | sbcLongX (addr : Addr)
  /-- 08: `PHP` (Implied), R324. -/
  | php
  /-- 0A: `ASL A` (Accumulator), R196. -/
  | aslA
  /-- 0B: `PHD` (Implied), R322. -/
  | phd
  /-- 18: `CLC` (Implied), R220. -/
  | clc
  /-- 1A: `INC A` (Accumulator), R169. -/
  | incA
  /-- 1B: `TCS` (Implied), R282. -/
  | tcs
  /-- 28: `PLP` (Implied), R314. -/
  | plp
  /-- 2A: `ROL A` (Accumulator), R198. -/
  | rolA
  /-- 2B: `PLD` (Implied), R313. -/
  | pld
  /-- 38: `SEC` (Implied), R221. -/
  | sec
  /-- 3A: `DEC A` (Accumulator), R166. -/
  | decA
  /-- 3B: `TSC` (Implied), R284. -/
  | tsc
  /-- 40: `RTI` (Implied), R342. -/
  | rti
  /-- 48: `PHA` (Implied), R320. -/
  | pha
  /-- 4A: `LSR A` (Accumulator), R197. -/
  | lsrA
  /-- 4B: `PHK` (Implied), R323. -/
  | phk
  /-- 58: `CLI` (Implied), R224. -/
  | cli
  /-- 5A: `PHY` (Implied), R326. -/
  | phy
  /-- 5B: `TCD` (Implied), R281. -/
  | tcd
  /-- 60: `RTS` (Implied), R251. -/
  | rts
  /-- 68: `PLA` (Implied), R311. -/
  | pla
  /-- 6A: `ROR A` (Accumulator), R199. -/
  | rorA
  /-- 6B: `RTL` (Implied), R252. -/
  | rtl
  /-- 78: `SEI` (Implied), R225. -/
  | sei
  /-- 7A: `PLY` (Implied), R316. -/
  | ply
  /-- 7B: `TDC` (Implied), R283. -/
  | tdc
  /-- 88: `DEY` (Implied), R168. -/
  | dey
  /-- 8A: `TXA` (Implied), R286. -/
  | txa
  /-- 8B: `PHB` (Implied), R321. -/
  | phb
  /-- 98: `TYA` (Implied), R289. -/
  | tya
  /-- 9A: `TXS` (Implied), R287. -/
  | txs
  /-- 9B: `TXY` (Implied), R288. -/
  | txy
  /-- A8: `TAY` (Implied), R280. -/
  | tay
  /-- AA: `TAX` (Implied), R279. -/
  | tax
  /-- AB: `PLB` (Implied), R312. -/
  | plb
  /-- B8: `CLV` (Implied), R226. -/
  | clv
  /-- BA: `TSX` (Implied), R285. -/
  | tsx
  /-- BB: `TYX` (Implied), R290. -/
  | tyx
  /-- C8: `INY` (Implied), R171. -/
  | iny
  /-- CA: `DEX` (Implied), R167. -/
  | dex
  /-- CB: `WAI` (Implied), R343. -/
  | wai
  /-- D8: `CLD` (Implied), R222. -/
  | cld
  /-- DA: `PHX` (Implied), R325. -/
  | phx
  /-- DB: `STP` (Implied), R366. -/
  | stp
  /-- E8: `INX` (Implied), R170. -/
  | inx
  /-- EA: `NOP` (Implied), R364. -/
  | nop
  /-- EB: `XBA` (Implied), R291. -/
  | xba
  /-- F8: `SED` (Implied), R223. -/
  | sed
  /-- FA: `PLX` (Implied), R315. -/
  | plx
  /-- FB: `XCE` (Implied), R363. -/
  | xce
deriving DecidableEq, Repr

end Sys2Proof
end

