-- ==== Sys2Proof/Machine/Dispatch.lean ====
section
/-! DEFINITION. One instruction, by its constructor: one call of its meaning for each arm. -/

namespace Sys2Proof.Machine

def exec (i : Instr) (s : State) : Host.Outcome State Fault Refusal :=
  match i with
  | .brk sig => Sys2Proof.Machine.execBrk sig s
  | .oraDpXInd dp => Sys2Proof.Machine.execOraDpXInd dp s
  | .cop sig => Sys2Proof.Machine.execCop sig s
  | .oraSr sr => Sys2Proof.Machine.execOraSr sr s
  | .tsbDp dp => Sys2Proof.Machine.execTsbDp dp s
  | .oraDp dp => Sys2Proof.Machine.execOraDp dp s
  | .aslDp dp => Sys2Proof.Machine.execAslDp dp s
  | .oraDpIndLong dp => Sys2Proof.Machine.execOraDpIndLong dp s
  | .oraImm imm => Sys2Proof.Machine.execOraImm imm s
  | .tsbAbs addr => Sys2Proof.Machine.execTsbAbs addr s
  | .oraAbs addr => Sys2Proof.Machine.execOraAbs addr s
  | .aslAbs addr => Sys2Proof.Machine.execAslAbs addr s
  | .oraLong addr => Sys2Proof.Machine.execOraLong addr s
  | .bpl disp => Sys2Proof.Machine.execBpl disp s
  | .oraDpIndY dp => Sys2Proof.Machine.execOraDpIndY dp s
  | .oraDpInd dp => Sys2Proof.Machine.execOraDpInd dp s
  | .oraSrIndY sr => Sys2Proof.Machine.execOraSrIndY sr s
  | .trbDp dp => Sys2Proof.Machine.execTrbDp dp s
  | .oraDpX dp => Sys2Proof.Machine.execOraDpX dp s
  | .aslDpX dp => Sys2Proof.Machine.execAslDpX dp s
  | .oraDpIndLongY dp => Sys2Proof.Machine.execOraDpIndLongY dp s
  | .oraAbsY addr => Sys2Proof.Machine.execOraAbsY addr s
  | .trbAbs addr => Sys2Proof.Machine.execTrbAbs addr s
  | .oraAbsX addr => Sys2Proof.Machine.execOraAbsX addr s
  | .aslAbsX addr => Sys2Proof.Machine.execAslAbsX addr s
  | .oraLongX addr => Sys2Proof.Machine.execOraLongX addr s
  | .jsrAbs addr => Sys2Proof.Machine.execJsrAbs addr s
  | .andDpXInd dp => Sys2Proof.Machine.execAndDpXInd dp s
  | .jsl addr => Sys2Proof.Machine.execJsl addr s
  | .andSr sr => Sys2Proof.Machine.execAndSr sr s
  | .bitDp dp => Sys2Proof.Machine.execBitDp dp s
  | .andDp dp => Sys2Proof.Machine.execAndDp dp s
  | .rolDp dp => Sys2Proof.Machine.execRolDp dp s
  | .andDpIndLong dp => Sys2Proof.Machine.execAndDpIndLong dp s
  | .andImm imm => Sys2Proof.Machine.execAndImm imm s
  | .bitAbs addr => Sys2Proof.Machine.execBitAbs addr s
  | .andAbs addr => Sys2Proof.Machine.execAndAbs addr s
  | .rolAbs addr => Sys2Proof.Machine.execRolAbs addr s
  | .andLong addr => Sys2Proof.Machine.execAndLong addr s
  | .bmi disp => Sys2Proof.Machine.execBmi disp s
  | .andDpIndY dp => Sys2Proof.Machine.execAndDpIndY dp s
  | .andDpInd dp => Sys2Proof.Machine.execAndDpInd dp s
  | .andSrIndY sr => Sys2Proof.Machine.execAndSrIndY sr s
  | .bitDpX dp => Sys2Proof.Machine.execBitDpX dp s
  | .andDpX dp => Sys2Proof.Machine.execAndDpX dp s
  | .rolDpX dp => Sys2Proof.Machine.execRolDpX dp s
  | .andDpIndLongY dp => Sys2Proof.Machine.execAndDpIndLongY dp s
  | .andAbsY addr => Sys2Proof.Machine.execAndAbsY addr s
  | .bitAbsX addr => Sys2Proof.Machine.execBitAbsX addr s
  | .andAbsX addr => Sys2Proof.Machine.execAndAbsX addr s
  | .rolAbsX addr => Sys2Proof.Machine.execRolAbsX addr s
  | .andLongX addr => Sys2Proof.Machine.execAndLongX addr s
  | .eorDpXInd dp => Sys2Proof.Machine.execEorDpXInd dp s
  | .wdm ignored => Sys2Proof.Machine.execWdm ignored s
  | .eorSr sr => Sys2Proof.Machine.execEorSr sr s
  | .mvp bank1 bank2 => Sys2Proof.Machine.execMvp bank1 bank2 s
  | .eorDp dp => Sys2Proof.Machine.execEorDp dp s
  | .lsrDp dp => Sys2Proof.Machine.execLsrDp dp s
  | .eorDpIndLong dp => Sys2Proof.Machine.execEorDpIndLong dp s
  | .eorImm imm => Sys2Proof.Machine.execEorImm imm s
  | .jmpAbs addr => Sys2Proof.Machine.execJmpAbs addr s
  | .eorAbs addr => Sys2Proof.Machine.execEorAbs addr s
  | .lsrAbs addr => Sys2Proof.Machine.execLsrAbs addr s
  | .eorLong addr => Sys2Proof.Machine.execEorLong addr s
  | .bvc disp => Sys2Proof.Machine.execBvc disp s
  | .eorDpIndY dp => Sys2Proof.Machine.execEorDpIndY dp s
  | .eorDpInd dp => Sys2Proof.Machine.execEorDpInd dp s
  | .eorSrIndY sr => Sys2Proof.Machine.execEorSrIndY sr s
  | .mvn bank1 bank2 => Sys2Proof.Machine.execMvn bank1 bank2 s
  | .eorDpX dp => Sys2Proof.Machine.execEorDpX dp s
  | .lsrDpX dp => Sys2Proof.Machine.execLsrDpX dp s
  | .eorDpIndLongY dp => Sys2Proof.Machine.execEorDpIndLongY dp s
  | .eorAbsY addr => Sys2Proof.Machine.execEorAbsY addr s
  | .jmpLong addr => Sys2Proof.Machine.execJmpLong addr s
  | .eorAbsX addr => Sys2Proof.Machine.execEorAbsX addr s
  | .lsrAbsX addr => Sys2Proof.Machine.execLsrAbsX addr s
  | .eorLongX addr => Sys2Proof.Machine.execEorLongX addr s
  | .adcDpXInd dp => Sys2Proof.Machine.execAdcDpXInd dp s
  | .per disp => Sys2Proof.Machine.execPer disp s
  | .adcSr sr => Sys2Proof.Machine.execAdcSr sr s
  | .stzDp dp => Sys2Proof.Machine.execStzDp dp s
  | .adcDp dp => Sys2Proof.Machine.execAdcDp dp s
  | .rorDp dp => Sys2Proof.Machine.execRorDp dp s
  | .adcDpIndLong dp => Sys2Proof.Machine.execAdcDpIndLong dp s
  | .adcImm imm => Sys2Proof.Machine.execAdcImm imm s
  | .jmpAbsInd addr => Sys2Proof.Machine.execJmpAbsInd addr s
  | .adcAbs addr => Sys2Proof.Machine.execAdcAbs addr s
  | .rorAbs addr => Sys2Proof.Machine.execRorAbs addr s
  | .adcLong addr => Sys2Proof.Machine.execAdcLong addr s
  | .bvs disp => Sys2Proof.Machine.execBvs disp s
  | .adcDpIndY dp => Sys2Proof.Machine.execAdcDpIndY dp s
  | .adcDpInd dp => Sys2Proof.Machine.execAdcDpInd dp s
  | .adcSrIndY sr => Sys2Proof.Machine.execAdcSrIndY sr s
  | .stzDpX dp => Sys2Proof.Machine.execStzDpX dp s
  | .adcDpX dp => Sys2Proof.Machine.execAdcDpX dp s
  | .rorDpX dp => Sys2Proof.Machine.execRorDpX dp s
  | .adcDpIndLongY dp => Sys2Proof.Machine.execAdcDpIndLongY dp s
  | .adcAbsY addr => Sys2Proof.Machine.execAdcAbsY addr s
  | .jmpAbsXInd addr => Sys2Proof.Machine.execJmpAbsXInd addr s
  | .adcAbsX addr => Sys2Proof.Machine.execAdcAbsX addr s
  | .rorAbsX addr => Sys2Proof.Machine.execRorAbsX addr s
  | .adcLongX addr => Sys2Proof.Machine.execAdcLongX addr s
  | .bra disp => Sys2Proof.Machine.execBra disp s
  | .staDpXInd dp => Sys2Proof.Machine.execStaDpXInd dp s
  | .brl disp => Sys2Proof.Machine.execBrl disp s
  | .staSr sr => Sys2Proof.Machine.execStaSr sr s
  | .styDp dp => Sys2Proof.Machine.execStyDp dp s
  | .staDp dp => Sys2Proof.Machine.execStaDp dp s
  | .stxDp dp => Sys2Proof.Machine.execStxDp dp s
  | .staDpIndLong dp => Sys2Proof.Machine.execStaDpIndLong dp s
  | .bitImm imm => Sys2Proof.Machine.execBitImm imm s
  | .styAbs addr => Sys2Proof.Machine.execStyAbs addr s
  | .staAbs addr => Sys2Proof.Machine.execStaAbs addr s
  | .stxAbs addr => Sys2Proof.Machine.execStxAbs addr s
  | .staLong addr => Sys2Proof.Machine.execStaLong addr s
  | .bcc disp => Sys2Proof.Machine.execBcc disp s
  | .staDpIndY dp => Sys2Proof.Machine.execStaDpIndY dp s
  | .staDpInd dp => Sys2Proof.Machine.execStaDpInd dp s
  | .staSrIndY sr => Sys2Proof.Machine.execStaSrIndY sr s
  | .styDpX dp => Sys2Proof.Machine.execStyDpX dp s
  | .staDpX dp => Sys2Proof.Machine.execStaDpX dp s
  | .stxDpY dp => Sys2Proof.Machine.execStxDpY dp s
  | .staDpIndLongY dp => Sys2Proof.Machine.execStaDpIndLongY dp s
  | .staAbsY addr => Sys2Proof.Machine.execStaAbsY addr s
  | .stzAbs addr => Sys2Proof.Machine.execStzAbs addr s
  | .staAbsX addr => Sys2Proof.Machine.execStaAbsX addr s
  | .stzAbsX addr => Sys2Proof.Machine.execStzAbsX addr s
  | .staLongX addr => Sys2Proof.Machine.execStaLongX addr s
  | .ldyImm imm => Sys2Proof.Machine.execLdyImm imm s
  | .ldaDpXInd dp => Sys2Proof.Machine.execLdaDpXInd dp s
  | .ldxImm imm => Sys2Proof.Machine.execLdxImm imm s
  | .ldaSr sr => Sys2Proof.Machine.execLdaSr sr s
  | .ldyDp dp => Sys2Proof.Machine.execLdyDp dp s
  | .ldaDp dp => Sys2Proof.Machine.execLdaDp dp s
  | .ldxDp dp => Sys2Proof.Machine.execLdxDp dp s
  | .ldaDpIndLong dp => Sys2Proof.Machine.execLdaDpIndLong dp s
  | .ldaImm imm => Sys2Proof.Machine.execLdaImm imm s
  | .ldyAbs addr => Sys2Proof.Machine.execLdyAbs addr s
  | .ldaAbs addr => Sys2Proof.Machine.execLdaAbs addr s
  | .ldxAbs addr => Sys2Proof.Machine.execLdxAbs addr s
  | .ldaLong addr => Sys2Proof.Machine.execLdaLong addr s
  | .bcs disp => Sys2Proof.Machine.execBcs disp s
  | .ldaDpIndY dp => Sys2Proof.Machine.execLdaDpIndY dp s
  | .ldaDpInd dp => Sys2Proof.Machine.execLdaDpInd dp s
  | .ldaSrIndY sr => Sys2Proof.Machine.execLdaSrIndY sr s
  | .ldyDpX dp => Sys2Proof.Machine.execLdyDpX dp s
  | .ldaDpX dp => Sys2Proof.Machine.execLdaDpX dp s
  | .ldxDpX dp => Sys2Proof.Machine.execLdxDpX dp s
  | .ldaDpIndLongY dp => Sys2Proof.Machine.execLdaDpIndLongY dp s
  | .ldaAbsY addr => Sys2Proof.Machine.execLdaAbsY addr s
  | .ldyAbsX addr => Sys2Proof.Machine.execLdyAbsX addr s
  | .ldaAbsX addr => Sys2Proof.Machine.execLdaAbsX addr s
  | .ldxAbsX addr => Sys2Proof.Machine.execLdxAbsX addr s
  | .ldaLongX addr => Sys2Proof.Machine.execLdaLongX addr s
  | .cpyImm imm => Sys2Proof.Machine.execCpyImm imm s
  | .cmpDpXInd dp => Sys2Proof.Machine.execCmpDpXInd dp s
  | .rep k => Sys2Proof.Machine.execRep k s
  | .cmpSr sr => Sys2Proof.Machine.execCmpSr sr s
  | .cpyDp dp => Sys2Proof.Machine.execCpyDp dp s
  | .cmpDp dp => Sys2Proof.Machine.execCmpDp dp s
  | .decDp dp => Sys2Proof.Machine.execDecDp dp s
  | .cmpDpIndLong dp => Sys2Proof.Machine.execCmpDpIndLong dp s
  | .cmpImm imm => Sys2Proof.Machine.execCmpImm imm s
  | .cpyAbs addr => Sys2Proof.Machine.execCpyAbs addr s
  | .cmpAbs addr => Sys2Proof.Machine.execCmpAbs addr s
  | .decAbs addr => Sys2Proof.Machine.execDecAbs addr s
  | .cmpLong addr => Sys2Proof.Machine.execCmpLong addr s
  | .bne disp => Sys2Proof.Machine.execBne disp s
  | .cmpDpIndY dp => Sys2Proof.Machine.execCmpDpIndY dp s
  | .cmpDpInd dp => Sys2Proof.Machine.execCmpDpInd dp s
  | .cmpSrIndY sr => Sys2Proof.Machine.execCmpSrIndY sr s
  | .pei dp => Sys2Proof.Machine.execPei dp s
  | .cmpDpX dp => Sys2Proof.Machine.execCmpDpX dp s
  | .decDpX dp => Sys2Proof.Machine.execDecDpX dp s
  | .cmpDpIndLongY dp => Sys2Proof.Machine.execCmpDpIndLongY dp s
  | .cmpAbsY addr => Sys2Proof.Machine.execCmpAbsY addr s
  | .jmpAbsIndLong addr => Sys2Proof.Machine.execJmpAbsIndLong addr s
  | .cmpAbsX addr => Sys2Proof.Machine.execCmpAbsX addr s
  | .decAbsX addr => Sys2Proof.Machine.execDecAbsX addr s
  | .cmpLongX addr => Sys2Proof.Machine.execCmpLongX addr s
  | .cpxImm imm => Sys2Proof.Machine.execCpxImm imm s
  | .sbcDpXInd dp => Sys2Proof.Machine.execSbcDpXInd dp s
  | .sep k => Sys2Proof.Machine.execSep k s
  | .sbcSr sr => Sys2Proof.Machine.execSbcSr sr s
  | .cpxDp dp => Sys2Proof.Machine.execCpxDp dp s
  | .sbcDp dp => Sys2Proof.Machine.execSbcDp dp s
  | .incDp dp => Sys2Proof.Machine.execIncDp dp s
  | .sbcDpIndLong dp => Sys2Proof.Machine.execSbcDpIndLong dp s
  | .sbcImm imm => Sys2Proof.Machine.execSbcImm imm s
  | .cpxAbs addr => Sys2Proof.Machine.execCpxAbs addr s
  | .sbcAbs addr => Sys2Proof.Machine.execSbcAbs addr s
  | .incAbs addr => Sys2Proof.Machine.execIncAbs addr s
  | .sbcLong addr => Sys2Proof.Machine.execSbcLong addr s
  | .beq disp => Sys2Proof.Machine.execBeq disp s
  | .sbcDpIndY dp => Sys2Proof.Machine.execSbcDpIndY dp s
  | .sbcDpInd dp => Sys2Proof.Machine.execSbcDpInd dp s
  | .sbcSrIndY sr => Sys2Proof.Machine.execSbcSrIndY sr s
  | .pea addr => Sys2Proof.Machine.execPea addr s
  | .sbcDpX dp => Sys2Proof.Machine.execSbcDpX dp s
  | .incDpX dp => Sys2Proof.Machine.execIncDpX dp s
  | .sbcDpIndLongY dp => Sys2Proof.Machine.execSbcDpIndLongY dp s
  | .sbcAbsY addr => Sys2Proof.Machine.execSbcAbsY addr s
  | .jsrAbsXInd addr => Sys2Proof.Machine.execJsrAbsXInd addr s
  | .sbcAbsX addr => Sys2Proof.Machine.execSbcAbsX addr s
  | .incAbsX addr => Sys2Proof.Machine.execIncAbsX addr s
  | .sbcLongX addr => Sys2Proof.Machine.execSbcLongX addr s
  | .php => Sys2Proof.Machine.execPhp s
  | .aslA => Sys2Proof.Machine.execAslA s
  | .phd => Sys2Proof.Machine.execPhd s
  | .clc => Sys2Proof.Machine.execClc s
  | .incA => Sys2Proof.Machine.execIncA s
  | .tcs => Sys2Proof.Machine.execTcs s
  | .plp => Sys2Proof.Machine.execPlp s
  | .rolA => Sys2Proof.Machine.execRolA s
  | .pld => Sys2Proof.Machine.execPld s
  | .sec => Sys2Proof.Machine.execSec s
  | .decA => Sys2Proof.Machine.execDecA s
  | .tsc => Sys2Proof.Machine.execTsc s
  | .rti => Sys2Proof.Machine.execRti s
  | .pha => Sys2Proof.Machine.execPha s
  | .lsrA => Sys2Proof.Machine.execLsrA s
  | .phk => Sys2Proof.Machine.execPhk s
  | .cli => Sys2Proof.Machine.execCli s
  | .phy => Sys2Proof.Machine.execPhy s
  | .tcd => Sys2Proof.Machine.execTcd s
  | .rts => Sys2Proof.Machine.execRts s
  | .pla => Sys2Proof.Machine.execPla s
  | .rorA => Sys2Proof.Machine.execRorA s
  | .rtl => Sys2Proof.Machine.execRtl s
  | .sei => Sys2Proof.Machine.execSei s
  | .ply => Sys2Proof.Machine.execPly s
  | .tdc => Sys2Proof.Machine.execTdc s
  | .dey => Sys2Proof.Machine.execDey s
  | .txa => Sys2Proof.Machine.execTxa s
  | .phb => Sys2Proof.Machine.execPhb s
  | .tya => Sys2Proof.Machine.execTya s
  | .txs => Sys2Proof.Machine.execTxs s
  | .txy => Sys2Proof.Machine.execTxy s
  | .tay => Sys2Proof.Machine.execTay s
  | .tax => Sys2Proof.Machine.execTax s
  | .plb => Sys2Proof.Machine.execPlb s
  | .clv => Sys2Proof.Machine.execClv s
  | .tsx => Sys2Proof.Machine.execTsx s
  | .tyx => Sys2Proof.Machine.execTyx s
  | .iny => Sys2Proof.Machine.execIny s
  | .dex => Sys2Proof.Machine.execDex s
  | .wai => Sys2Proof.Machine.execWai s
  | .cld => Sys2Proof.Machine.execCld s
  | .phx => Sys2Proof.Machine.execPhx s
  | .stp => Sys2Proof.Machine.execStp s
  | .inx => Sys2Proof.Machine.execInx s
  | .nop => Sys2Proof.Machine.execNop s
  | .xba => Sys2Proof.Machine.execXba s
  | .sed => Sys2Proof.Machine.execSed s
  | .plx => Sys2Proof.Machine.execPlx s
  | .xce => Sys2Proof.Machine.execXce s

end Sys2Proof.Machine
end

