-- ==== Sys2Proof/WellFormed.lean ====
section
/-! DEFINITION. Which instructions are well formed on a variant and at given widths: the variant has the instruction (spec
rules R96, R110) and a `#const` fits the width it is encoded at (R93). -/

namespace Sys2Proof

/-- The variants are three supersets, 6502 within 65C02 within 65816 (R1, R96). -/
def Variant.rank : Variant → Nat
  | .v6502 => 0
  | .v65C02 => 1
  | .v65816 => 2

/-- `v.offers u`: whatever is available from `u` on is available on `v` (R96). -/
def Variant.offers (v since : Variant) : Bool := since.rank ≤ v.rank

/-- The first variant that has the instruction (the "On" column of R110). -/
def Instr.since : Instr → Variant
  | .brk _ | .oraDpXInd _ | .oraDp _ | .aslDp _ | .php | .oraImm _ | .aslA | .oraAbs _ | .aslAbs _ | .bpl _
  | .oraDpIndY _ | .oraDpX _ | .aslDpX _ | .clc | .oraAbsY _ | .oraAbsX _ | .aslAbsX _ | .jsrAbs _ | .andDpXInd _
  | .bitDp _ | .andDp _ | .rolDp _ | .plp | .andImm _ | .rolA | .bitAbs _ | .andAbs _ | .rolAbs _ | .bmi _
  | .andDpIndY _ | .andDpX _ | .rolDpX _ | .sec | .andAbsY _ | .andAbsX _ | .rolAbsX _ | .rti | .eorDpXInd _
  | .eorDp _ | .lsrDp _ | .pha | .eorImm _ | .lsrA | .jmpAbs _ | .eorAbs _ | .lsrAbs _ | .bvc _ | .eorDpIndY _
  | .eorDpX _ | .lsrDpX _ | .cli | .eorAbsY _ | .eorAbsX _ | .lsrAbsX _ | .rts | .adcDpXInd _ | .adcDp _ | .rorDp _
  | .pla | .adcImm _ | .rorA | .jmpAbsInd _ | .adcAbs _ | .rorAbs _ | .bvs _ | .adcDpIndY _ | .adcDpX _ | .rorDpX _
  | .sei | .adcAbsY _ | .adcAbsX _ | .rorAbsX _ | .staDpXInd _ | .styDp _ | .staDp _ | .stxDp _ | .dey | .txa
  | .styAbs _ | .staAbs _ | .stxAbs _ | .bcc _ | .staDpIndY _ | .styDpX _ | .staDpX _ | .stxDpY _ | .tya | .staAbsY _
  | .txs | .staAbsX _ | .ldyImm _ | .ldaDpXInd _ | .ldxImm _ | .ldyDp _ | .ldaDp _ | .ldxDp _ | .tay | .ldaImm _
  | .tax | .ldyAbs _ | .ldaAbs _ | .ldxAbs _ | .bcs _ | .ldaDpIndY _ | .ldyDpX _ | .ldaDpX _ | .ldxDpX _ | .clv
  | .ldaAbsY _ | .tsx | .ldyAbsX _ | .ldaAbsX _ | .ldxAbsX _ | .cpyImm _ | .cmpDpXInd _ | .cpyDp _ | .cmpDp _
  | .decDp _ | .iny | .cmpImm _ | .dex | .cpyAbs _ | .cmpAbs _ | .decAbs _ | .bne _ | .cmpDpIndY _ | .cmpDpX _
  | .decDpX _ | .cld | .cmpAbsY _ | .cmpAbsX _ | .decAbsX _ | .cpxImm _ | .sbcDpXInd _ | .cpxDp _ | .sbcDp _
  | .incDp _ | .inx | .sbcImm _ | .nop | .cpxAbs _ | .sbcAbs _ | .incAbs _ | .beq _ | .sbcDpIndY _ | .sbcDpX _
  | .incDpX _ | .sed | .sbcAbsY _ | .sbcAbsX _ | .incAbsX _
    => .v6502
  | .tsbDp _ | .tsbAbs _ | .oraDpInd _ | .trbDp _ | .incA | .trbAbs _ | .andDpInd _ | .bitDpX _ | .decA | .bitAbsX _
  | .eorDpInd _ | .phy | .stzDp _ | .adcDpInd _ | .stzDpX _ | .ply | .jmpAbsXInd _ | .bra _ | .bitImm _ | .staDpInd _
  | .stzAbs _ | .stzAbsX _ | .ldaDpInd _ | .cmpDpInd _ | .phx | .sbcDpInd _ | .plx
    => .v65C02
  | .cop _ | .oraSr _ | .oraDpIndLong _ | .phd | .oraLong _ | .oraSrIndY _ | .oraDpIndLongY _ | .tcs | .oraLongX _
  | .jsl _ | .andSr _ | .andDpIndLong _ | .pld | .andLong _ | .andSrIndY _ | .andDpIndLongY _ | .tsc | .andLongX _
  | .wdm _ | .eorSr _ | .mvp _ _ | .eorDpIndLong _ | .phk | .eorLong _ | .eorSrIndY _ | .mvn _ _ | .eorDpIndLongY _
  | .tcd | .jmpLong _ | .eorLongX _ | .per _ | .adcSr _ | .adcDpIndLong _ | .rtl | .adcLong _ | .adcSrIndY _
  | .adcDpIndLongY _ | .tdc | .adcLongX _ | .brl _ | .staSr _ | .staDpIndLong _ | .phb | .staLong _ | .staSrIndY _
  | .staDpIndLongY _ | .txy | .staLongX _ | .ldaSr _ | .ldaDpIndLong _ | .plb | .ldaLong _ | .ldaSrIndY _
  | .ldaDpIndLongY _ | .tyx | .ldaLongX _ | .rep _ | .cmpSr _ | .cmpDpIndLong _ | .wai | .cmpLong _ | .cmpSrIndY _
  | .pei _ | .cmpDpIndLongY _ | .stp | .jmpAbsIndLong _ | .cmpLongX _ | .sep _ | .sbcSr _ | .sbcDpIndLong _ | .xba
  | .sbcLong _ | .sbcSrIndY _ | .pea _ | .sbcDpIndLongY _ | .xce | .jsrAbsXInd _ | .sbcLongX _
    => .v65816

/-- Whether a constant fits the width it is encoded at (R93). -/
def Width.fits (w : Width) (imm : Word) : Bool := imm.toNat < 2 ^ w.bits

/-- The `#const` operands of the eight opcodes of IMM_M fit `mw`, those of the four of IMM_X fit `xw` (R93). -/
def Instr.immediateFits (w : Widths) : Instr → Bool
  | .oraImm imm | .andImm imm | .eorImm imm | .adcImm imm | .bitImm imm | .ldaImm imm | .cmpImm imm | .sbcImm imm
    => w.m.fits imm
  | .ldyImm imm | .ldxImm imm | .cpyImm imm | .cpxImm imm
    => w.x.fits imm
  | .brk _ | .oraDpXInd _ | .cop _ | .oraSr _ | .tsbDp _ | .oraDp _ | .aslDp _ | .oraDpIndLong _ | .php | .aslA
  | .phd | .tsbAbs _ | .oraAbs _ | .aslAbs _ | .oraLong _ | .bpl _ | .oraDpIndY _ | .oraDpInd _ | .oraSrIndY _
  | .trbDp _ | .oraDpX _ | .aslDpX _ | .oraDpIndLongY _ | .clc | .oraAbsY _ | .incA | .tcs | .trbAbs _ | .oraAbsX _
  | .aslAbsX _ | .oraLongX _ | .jsrAbs _ | .andDpXInd _ | .jsl _ | .andSr _ | .bitDp _ | .andDp _ | .rolDp _
  | .andDpIndLong _ | .plp | .rolA | .pld | .bitAbs _ | .andAbs _ | .rolAbs _ | .andLong _ | .bmi _ | .andDpIndY _
  | .andDpInd _ | .andSrIndY _ | .bitDpX _ | .andDpX _ | .rolDpX _ | .andDpIndLongY _ | .sec | .andAbsY _ | .decA
  | .tsc | .bitAbsX _ | .andAbsX _ | .rolAbsX _ | .andLongX _ | .rti | .eorDpXInd _ | .wdm _ | .eorSr _ | .mvp _ _
  | .eorDp _ | .lsrDp _ | .eorDpIndLong _ | .pha | .lsrA | .phk | .jmpAbs _ | .eorAbs _ | .lsrAbs _ | .eorLong _
  | .bvc _ | .eorDpIndY _ | .eorDpInd _ | .eorSrIndY _ | .mvn _ _ | .eorDpX _ | .lsrDpX _ | .eorDpIndLongY _ | .cli
  | .eorAbsY _ | .phy | .tcd | .jmpLong _ | .eorAbsX _ | .lsrAbsX _ | .eorLongX _ | .rts | .adcDpXInd _ | .per _
  | .adcSr _ | .stzDp _ | .adcDp _ | .rorDp _ | .adcDpIndLong _ | .pla | .rorA | .rtl | .jmpAbsInd _ | .adcAbs _
  | .rorAbs _ | .adcLong _ | .bvs _ | .adcDpIndY _ | .adcDpInd _ | .adcSrIndY _ | .stzDpX _ | .adcDpX _ | .rorDpX _
  | .adcDpIndLongY _ | .sei | .adcAbsY _ | .ply | .tdc | .jmpAbsXInd _ | .adcAbsX _ | .rorAbsX _ | .adcLongX _
  | .bra _ | .staDpXInd _ | .brl _ | .staSr _ | .styDp _ | .staDp _ | .stxDp _ | .staDpIndLong _ | .dey | .txa | .phb
  | .styAbs _ | .staAbs _ | .stxAbs _ | .staLong _ | .bcc _ | .staDpIndY _ | .staDpInd _ | .staSrIndY _ | .styDpX _
  | .staDpX _ | .stxDpY _ | .staDpIndLongY _ | .tya | .staAbsY _ | .txs | .txy | .stzAbs _ | .staAbsX _ | .stzAbsX _
  | .staLongX _ | .ldaDpXInd _ | .ldaSr _ | .ldyDp _ | .ldaDp _ | .ldxDp _ | .ldaDpIndLong _ | .tay | .tax | .plb
  | .ldyAbs _ | .ldaAbs _ | .ldxAbs _ | .ldaLong _ | .bcs _ | .ldaDpIndY _ | .ldaDpInd _ | .ldaSrIndY _ | .ldyDpX _
  | .ldaDpX _ | .ldxDpX _ | .ldaDpIndLongY _ | .clv | .ldaAbsY _ | .tsx | .tyx | .ldyAbsX _ | .ldaAbsX _ | .ldxAbsX _
  | .ldaLongX _ | .cmpDpXInd _ | .rep _ | .cmpSr _ | .cpyDp _ | .cmpDp _ | .decDp _ | .cmpDpIndLong _ | .iny | .dex
  | .wai | .cpyAbs _ | .cmpAbs _ | .decAbs _ | .cmpLong _ | .bne _ | .cmpDpIndY _ | .cmpDpInd _ | .cmpSrIndY _
  | .pei _ | .cmpDpX _ | .decDpX _ | .cmpDpIndLongY _ | .cld | .cmpAbsY _ | .phx | .stp | .jmpAbsIndLong _
  | .cmpAbsX _ | .decAbsX _ | .cmpLongX _ | .sbcDpXInd _ | .sep _ | .sbcSr _ | .cpxDp _ | .sbcDp _ | .incDp _
  | .sbcDpIndLong _ | .inx | .nop | .xba | .cpxAbs _ | .sbcAbs _ | .incAbs _ | .sbcLong _ | .beq _ | .sbcDpIndY _
  | .sbcDpInd _ | .sbcSrIndY _ | .pea _ | .sbcDpX _ | .incDpX _ | .sbcDpIndLongY _ | .sed | .sbcAbsY _ | .plx | .xce
  | .jsrAbsXInd _ | .sbcAbsX _ | .incAbsX _ | .sbcLongX _
    => true

/-- Well formed on variant `v` at widths `w`: available (R97) and encodable (R93). -/
def Instr.wellFormed (v : Variant) (w : Widths) (i : Instr) : Bool := v.offers i.since && i.immediateFits w

end Sys2Proof
end

