-- ==== Sys2Proof/Decode.lean ====
section
/-! DEFINITION. Decoding and encoding (spec file 30_encoding.md). The decoder is the 256-entry table on byte 0 that R90 calls
for, written as the 16 by 16 matrix of R113 from the rows of R110; operand bytes are assembled by R92. -/

namespace Sys2Proof

/-- A 16-bit operand from its two bytes, low byte first (R66, R92). -/
def leWord (b1 b2 : Byte) : Word := b2 ++ b1

/-- A 24-bit operand from its three bytes, the third the bank (R92). -/
def leLong (b1 b2 b3 : Byte) : Addr := b3 ++ b2 ++ b1

/-- A `#const` at a width: one byte, or two with the low byte first (R92, R121). -/
def leConst (w : Width) (b1 b2 : Byte) : Word :=
  match w with
  | .w8 => b1.zeroExtend 16
  | .w16 => leWord b1 b2

/-- The operand layouts of R91, with the instruction that assembled operands make: F1, F2, F3, F3B, F4, and the immediates
of R93 whose layout is F2 or F3 as `mw` or `xw` says. -/
inductive Layout where
  | implied (i : Instr)
  | byte (f : Byte → Instr)
  | word (f : Word → Instr)
  | pair (f : Byte → Byte → Instr)
  | long (f : Addr → Instr)
  | immM (f : Word → Instr)
  | immX (f : Word → Instr)

/-- The instruction of a layout from the bytes after the opcode (R92). Bytes the layout does not have are not looked at. -/
def Layout.assemble (w : Widths) (b1 b2 b3 : Byte) : Layout → Instr
  | .implied i => i
  | .byte f => f b1
  | .word f => f (leWord b1 b2)
  | .pair f => f b1 b2
  | .long f => f (leLong b1 b2 b3)
  | .immM f => f (leConst w.m b1 b2)
  | .immX f => f (leConst w.x b1 b2)

/-- `len` of R93: the length in bytes, opcode included. -/
def Layout.length (w : Widths) : Layout → Nat
  | .implied _ => 1
  | .byte _ => 2
  | .word _ => 3
  | .pair _ => 3
  | .long _ => 4
  | .immM _ => 1 + w.m.bytes
  | .immX _ => 1 + w.x.bytes

/-- One cell of the opcode map (R110): the first variant that has the opcode, and its layout. -/
structure OpcodeRow where
  since : Variant
  layout : Layout

/-- Opcodes 00 to 0F (R110). -/
def opcodeRow0 : List OpcodeRow := [
  ⟨.v6502, .byte .brk⟩,
  ⟨.v6502, .byte .oraDpXInd⟩,
  ⟨.v65816, .byte .cop⟩,
  ⟨.v65816, .byte .oraSr⟩,
  ⟨.v65C02, .byte .tsbDp⟩,
  ⟨.v6502, .byte .oraDp⟩,
  ⟨.v6502, .byte .aslDp⟩,
  ⟨.v65816, .byte .oraDpIndLong⟩,
  ⟨.v6502, .implied .php⟩,
  ⟨.v6502, .immM .oraImm⟩,
  ⟨.v6502, .implied .aslA⟩,
  ⟨.v65816, .implied .phd⟩,
  ⟨.v65C02, .word .tsbAbs⟩,
  ⟨.v6502, .word .oraAbs⟩,
  ⟨.v6502, .word .aslAbs⟩,
  ⟨.v65816, .long .oraLong⟩]

/-- Opcodes 10 to 1F (R110). -/
def opcodeRow1 : List OpcodeRow := [
  ⟨.v6502, .byte .bpl⟩,
  ⟨.v6502, .byte .oraDpIndY⟩,
  ⟨.v65C02, .byte .oraDpInd⟩,
  ⟨.v65816, .byte .oraSrIndY⟩,
  ⟨.v65C02, .byte .trbDp⟩,
  ⟨.v6502, .byte .oraDpX⟩,
  ⟨.v6502, .byte .aslDpX⟩,
  ⟨.v65816, .byte .oraDpIndLongY⟩,
  ⟨.v6502, .implied .clc⟩,
  ⟨.v6502, .word .oraAbsY⟩,
  ⟨.v65C02, .implied .incA⟩,
  ⟨.v65816, .implied .tcs⟩,
  ⟨.v65C02, .word .trbAbs⟩,
  ⟨.v6502, .word .oraAbsX⟩,
  ⟨.v6502, .word .aslAbsX⟩,
  ⟨.v65816, .long .oraLongX⟩]

/-- Opcodes 20 to 2F (R110). -/
def opcodeRow2 : List OpcodeRow := [
  ⟨.v6502, .word .jsrAbs⟩,
  ⟨.v6502, .byte .andDpXInd⟩,
  ⟨.v65816, .long .jsl⟩,
  ⟨.v65816, .byte .andSr⟩,
  ⟨.v6502, .byte .bitDp⟩,
  ⟨.v6502, .byte .andDp⟩,
  ⟨.v6502, .byte .rolDp⟩,
  ⟨.v65816, .byte .andDpIndLong⟩,
  ⟨.v6502, .implied .plp⟩,
  ⟨.v6502, .immM .andImm⟩,
  ⟨.v6502, .implied .rolA⟩,
  ⟨.v65816, .implied .pld⟩,
  ⟨.v6502, .word .bitAbs⟩,
  ⟨.v6502, .word .andAbs⟩,
  ⟨.v6502, .word .rolAbs⟩,
  ⟨.v65816, .long .andLong⟩]

/-- Opcodes 30 to 3F (R110). -/
def opcodeRow3 : List OpcodeRow := [
  ⟨.v6502, .byte .bmi⟩,
  ⟨.v6502, .byte .andDpIndY⟩,
  ⟨.v65C02, .byte .andDpInd⟩,
  ⟨.v65816, .byte .andSrIndY⟩,
  ⟨.v65C02, .byte .bitDpX⟩,
  ⟨.v6502, .byte .andDpX⟩,
  ⟨.v6502, .byte .rolDpX⟩,
  ⟨.v65816, .byte .andDpIndLongY⟩,
  ⟨.v6502, .implied .sec⟩,
  ⟨.v6502, .word .andAbsY⟩,
  ⟨.v65C02, .implied .decA⟩,
  ⟨.v65816, .implied .tsc⟩,
  ⟨.v65C02, .word .bitAbsX⟩,
  ⟨.v6502, .word .andAbsX⟩,
  ⟨.v6502, .word .rolAbsX⟩,
  ⟨.v65816, .long .andLongX⟩]

/-- Opcodes 40 to 4F (R110). -/
def opcodeRow4 : List OpcodeRow := [
  ⟨.v6502, .implied .rti⟩,
  ⟨.v6502, .byte .eorDpXInd⟩,
  ⟨.v65816, .byte .wdm⟩,
  ⟨.v65816, .byte .eorSr⟩,
  ⟨.v65816, .pair .mvp⟩,
  ⟨.v6502, .byte .eorDp⟩,
  ⟨.v6502, .byte .lsrDp⟩,
  ⟨.v65816, .byte .eorDpIndLong⟩,
  ⟨.v6502, .implied .pha⟩,
  ⟨.v6502, .immM .eorImm⟩,
  ⟨.v6502, .implied .lsrA⟩,
  ⟨.v65816, .implied .phk⟩,
  ⟨.v6502, .word .jmpAbs⟩,
  ⟨.v6502, .word .eorAbs⟩,
  ⟨.v6502, .word .lsrAbs⟩,
  ⟨.v65816, .long .eorLong⟩]

/-- Opcodes 50 to 5F (R110). -/
def opcodeRow5 : List OpcodeRow := [
  ⟨.v6502, .byte .bvc⟩,
  ⟨.v6502, .byte .eorDpIndY⟩,
  ⟨.v65C02, .byte .eorDpInd⟩,
  ⟨.v65816, .byte .eorSrIndY⟩,
  ⟨.v65816, .pair .mvn⟩,
  ⟨.v6502, .byte .eorDpX⟩,
  ⟨.v6502, .byte .lsrDpX⟩,
  ⟨.v65816, .byte .eorDpIndLongY⟩,
  ⟨.v6502, .implied .cli⟩,
  ⟨.v6502, .word .eorAbsY⟩,
  ⟨.v65C02, .implied .phy⟩,
  ⟨.v65816, .implied .tcd⟩,
  ⟨.v65816, .long .jmpLong⟩,
  ⟨.v6502, .word .eorAbsX⟩,
  ⟨.v6502, .word .lsrAbsX⟩,
  ⟨.v65816, .long .eorLongX⟩]

/-- Opcodes 60 to 6F (R110). -/
def opcodeRow6 : List OpcodeRow := [
  ⟨.v6502, .implied .rts⟩,
  ⟨.v6502, .byte .adcDpXInd⟩,
  ⟨.v65816, .word .per⟩,
  ⟨.v65816, .byte .adcSr⟩,
  ⟨.v65C02, .byte .stzDp⟩,
  ⟨.v6502, .byte .adcDp⟩,
  ⟨.v6502, .byte .rorDp⟩,
  ⟨.v65816, .byte .adcDpIndLong⟩,
  ⟨.v6502, .implied .pla⟩,
  ⟨.v6502, .immM .adcImm⟩,
  ⟨.v6502, .implied .rorA⟩,
  ⟨.v65816, .implied .rtl⟩,
  ⟨.v6502, .word .jmpAbsInd⟩,
  ⟨.v6502, .word .adcAbs⟩,
  ⟨.v6502, .word .rorAbs⟩,
  ⟨.v65816, .long .adcLong⟩]

/-- Opcodes 70 to 7F (R110). -/
def opcodeRow7 : List OpcodeRow := [
  ⟨.v6502, .byte .bvs⟩,
  ⟨.v6502, .byte .adcDpIndY⟩,
  ⟨.v65C02, .byte .adcDpInd⟩,
  ⟨.v65816, .byte .adcSrIndY⟩,
  ⟨.v65C02, .byte .stzDpX⟩,
  ⟨.v6502, .byte .adcDpX⟩,
  ⟨.v6502, .byte .rorDpX⟩,
  ⟨.v65816, .byte .adcDpIndLongY⟩,
  ⟨.v6502, .implied .sei⟩,
  ⟨.v6502, .word .adcAbsY⟩,
  ⟨.v65C02, .implied .ply⟩,
  ⟨.v65816, .implied .tdc⟩,
  ⟨.v65C02, .word .jmpAbsXInd⟩,
  ⟨.v6502, .word .adcAbsX⟩,
  ⟨.v6502, .word .rorAbsX⟩,
  ⟨.v65816, .long .adcLongX⟩]

/-- Opcodes 80 to 8F (R110). -/
def opcodeRow8 : List OpcodeRow := [
  ⟨.v65C02, .byte .bra⟩,
  ⟨.v6502, .byte .staDpXInd⟩,
  ⟨.v65816, .word .brl⟩,
  ⟨.v65816, .byte .staSr⟩,
  ⟨.v6502, .byte .styDp⟩,
  ⟨.v6502, .byte .staDp⟩,
  ⟨.v6502, .byte .stxDp⟩,
  ⟨.v65816, .byte .staDpIndLong⟩,
  ⟨.v6502, .implied .dey⟩,
  ⟨.v65C02, .immM .bitImm⟩,
  ⟨.v6502, .implied .txa⟩,
  ⟨.v65816, .implied .phb⟩,
  ⟨.v6502, .word .styAbs⟩,
  ⟨.v6502, .word .staAbs⟩,
  ⟨.v6502, .word .stxAbs⟩,
  ⟨.v65816, .long .staLong⟩]

/-- Opcodes 90 to 9F (R110). -/
def opcodeRow9 : List OpcodeRow := [
  ⟨.v6502, .byte .bcc⟩,
  ⟨.v6502, .byte .staDpIndY⟩,
  ⟨.v65C02, .byte .staDpInd⟩,
  ⟨.v65816, .byte .staSrIndY⟩,
  ⟨.v6502, .byte .styDpX⟩,
  ⟨.v6502, .byte .staDpX⟩,
  ⟨.v6502, .byte .stxDpY⟩,
  ⟨.v65816, .byte .staDpIndLongY⟩,
  ⟨.v6502, .implied .tya⟩,
  ⟨.v6502, .word .staAbsY⟩,
  ⟨.v6502, .implied .txs⟩,
  ⟨.v65816, .implied .txy⟩,
  ⟨.v65C02, .word .stzAbs⟩,
  ⟨.v6502, .word .staAbsX⟩,
  ⟨.v65C02, .word .stzAbsX⟩,
  ⟨.v65816, .long .staLongX⟩]

/-- Opcodes A0 to AF (R110). -/
def opcodeRowA : List OpcodeRow := [
  ⟨.v6502, .immX .ldyImm⟩,
  ⟨.v6502, .byte .ldaDpXInd⟩,
  ⟨.v6502, .immX .ldxImm⟩,
  ⟨.v65816, .byte .ldaSr⟩,
  ⟨.v6502, .byte .ldyDp⟩,
  ⟨.v6502, .byte .ldaDp⟩,
  ⟨.v6502, .byte .ldxDp⟩,
  ⟨.v65816, .byte .ldaDpIndLong⟩,
  ⟨.v6502, .implied .tay⟩,
  ⟨.v6502, .immM .ldaImm⟩,
  ⟨.v6502, .implied .tax⟩,
  ⟨.v65816, .implied .plb⟩,
  ⟨.v6502, .word .ldyAbs⟩,
  ⟨.v6502, .word .ldaAbs⟩,
  ⟨.v6502, .word .ldxAbs⟩,
  ⟨.v65816, .long .ldaLong⟩]

/-- Opcodes B0 to BF (R110). -/
def opcodeRowB : List OpcodeRow := [
  ⟨.v6502, .byte .bcs⟩,
  ⟨.v6502, .byte .ldaDpIndY⟩,
  ⟨.v65C02, .byte .ldaDpInd⟩,
  ⟨.v65816, .byte .ldaSrIndY⟩,
  ⟨.v6502, .byte .ldyDpX⟩,
  ⟨.v6502, .byte .ldaDpX⟩,
  ⟨.v6502, .byte .ldxDpX⟩,
  ⟨.v65816, .byte .ldaDpIndLongY⟩,
  ⟨.v6502, .implied .clv⟩,
  ⟨.v6502, .word .ldaAbsY⟩,
  ⟨.v6502, .implied .tsx⟩,
  ⟨.v65816, .implied .tyx⟩,
  ⟨.v6502, .word .ldyAbsX⟩,
  ⟨.v6502, .word .ldaAbsX⟩,
  ⟨.v6502, .word .ldxAbsX⟩,
  ⟨.v65816, .long .ldaLongX⟩]

/-- Opcodes C0 to CF (R110). -/
def opcodeRowC : List OpcodeRow := [
  ⟨.v6502, .immX .cpyImm⟩,
  ⟨.v6502, .byte .cmpDpXInd⟩,
  ⟨.v65816, .byte .rep⟩,
  ⟨.v65816, .byte .cmpSr⟩,
  ⟨.v6502, .byte .cpyDp⟩,
  ⟨.v6502, .byte .cmpDp⟩,
  ⟨.v6502, .byte .decDp⟩,
  ⟨.v65816, .byte .cmpDpIndLong⟩,
  ⟨.v6502, .implied .iny⟩,
  ⟨.v6502, .immM .cmpImm⟩,
  ⟨.v6502, .implied .dex⟩,
  ⟨.v65816, .implied .wai⟩,
  ⟨.v6502, .word .cpyAbs⟩,
  ⟨.v6502, .word .cmpAbs⟩,
  ⟨.v6502, .word .decAbs⟩,
  ⟨.v65816, .long .cmpLong⟩]

/-- Opcodes D0 to DF (R110). -/
def opcodeRowD : List OpcodeRow := [
  ⟨.v6502, .byte .bne⟩,
  ⟨.v6502, .byte .cmpDpIndY⟩,
  ⟨.v65C02, .byte .cmpDpInd⟩,
  ⟨.v65816, .byte .cmpSrIndY⟩,
  ⟨.v65816, .byte .pei⟩,
  ⟨.v6502, .byte .cmpDpX⟩,
  ⟨.v6502, .byte .decDpX⟩,
  ⟨.v65816, .byte .cmpDpIndLongY⟩,
  ⟨.v6502, .implied .cld⟩,
  ⟨.v6502, .word .cmpAbsY⟩,
  ⟨.v65C02, .implied .phx⟩,
  ⟨.v65816, .implied .stp⟩,
  ⟨.v65816, .word .jmpAbsIndLong⟩,
  ⟨.v6502, .word .cmpAbsX⟩,
  ⟨.v6502, .word .decAbsX⟩,
  ⟨.v65816, .long .cmpLongX⟩]

/-- Opcodes E0 to EF (R110). -/
def opcodeRowE : List OpcodeRow := [
  ⟨.v6502, .immX .cpxImm⟩,
  ⟨.v6502, .byte .sbcDpXInd⟩,
  ⟨.v65816, .byte .sep⟩,
  ⟨.v65816, .byte .sbcSr⟩,
  ⟨.v6502, .byte .cpxDp⟩,
  ⟨.v6502, .byte .sbcDp⟩,
  ⟨.v6502, .byte .incDp⟩,
  ⟨.v65816, .byte .sbcDpIndLong⟩,
  ⟨.v6502, .implied .inx⟩,
  ⟨.v6502, .immM .sbcImm⟩,
  ⟨.v6502, .implied .nop⟩,
  ⟨.v65816, .implied .xba⟩,
  ⟨.v6502, .word .cpxAbs⟩,
  ⟨.v6502, .word .sbcAbs⟩,
  ⟨.v6502, .word .incAbs⟩,
  ⟨.v65816, .long .sbcLong⟩]

/-- Opcodes F0 to FF (R110). -/
def opcodeRowF : List OpcodeRow := [
  ⟨.v6502, .byte .beq⟩,
  ⟨.v6502, .byte .sbcDpIndY⟩,
  ⟨.v65C02, .byte .sbcDpInd⟩,
  ⟨.v65816, .byte .sbcSrIndY⟩,
  ⟨.v65816, .word .pea⟩,
  ⟨.v6502, .byte .sbcDpX⟩,
  ⟨.v6502, .byte .incDpX⟩,
  ⟨.v65816, .byte .sbcDpIndLongY⟩,
  ⟨.v6502, .implied .sed⟩,
  ⟨.v6502, .word .sbcAbsY⟩,
  ⟨.v65C02, .implied .plx⟩,
  ⟨.v65816, .implied .xce⟩,
  ⟨.v65816, .word .jsrAbsXInd⟩,
  ⟨.v6502, .word .sbcAbsX⟩,
  ⟨.v6502, .word .incAbsX⟩,
  ⟨.v65816, .long .sbcLongX⟩]

/-- The opcode matrix: row = high hex digit, column = low hex digit (R110, R113). -/
def opcodeMatrix : List (List OpcodeRow) :=
  [opcodeRow0, opcodeRow1, opcodeRow2, opcodeRow3, opcodeRow4, opcodeRow5, opcodeRow6, opcodeRow7,
   opcodeRow8, opcodeRow9, opcodeRowA, opcodeRowB, opcodeRowC, opcodeRowD, opcodeRowE, opcodeRowF]

/-- The cell of an opcode byte. -/
def opcodeCell (op : Byte) : OpcodeRow :=
  ((opcodeMatrix.getD (op.toNat / 16) []).getD (op.toNat % 16) ⟨.v65816, .implied .nop⟩)

/-- `len` of the instruction that begins with an opcode byte (R93). -/
def opcodeLength (w : Widths) (op : Byte) : Nat := (opcodeCell op).layout.length w

/-- The decoding procedure of R100 on an opcode byte and the three bytes after it: the instruction, or `none` where the byte
is not available on the variant (R97). -/
def decodeOp (v : Variant) (w : Widths) (op b1 b2 b3 : Byte) : Option Instr :=
  if v.offers (opcodeCell op).since then some ((opcodeCell op).layout.assemble w b1 b2 b3) else none

/-- Why a string of bytes is refused. -/
inductive DecodeError where
  /-- The opcode byte is not available on the variant (R97). -/
  | illegalOpcode (byte : Byte)
  /-- The string ends before the instruction does. -/
  | truncated
deriving DecidableEq, Repr

/-- Decode the first instruction of a string of bytes, and what is left of the string. Total: R100 "every byte value either
selects an instruction or is refused by name". -/
def decode (v : Variant) (w : Widths) : List Byte → Except DecodeError (Instr × List Byte)
  | [] => .error .truncated
  | op :: rest =>
    match decodeOp v w op (rest.getD 0 0#8) (rest.getD 1 0#8) (rest.getD 2 0#8) with
    | none => .error (.illegalOpcode op)
    | some i =>
      if rest.length + 1 < opcodeLength w op then .error .truncated
      else .ok (i, rest.drop (opcodeLength w op - 1))

/-- The instruction read from an instruction whose bits are `w`, bit 0 the least significant bit of the opcode byte, every
bit above `nbits` being 0. It is read as the V65816 reads it with 8-bit registers, as after reset (R49). -/
def decodeTableWord (nbits w : Nat) : Option Instr :=
  let bits := w % 2 ^ nbits
  decodeOp .v65816 ⟨.w8, .w8⟩ (BitVec.ofNat 8 bits) (BitVec.ofNat 8 (bits / 2 ^ 8)) (BitVec.ofNat 8 (bits / 2 ^ 16))
    (BitVec.ofNat 8 (bits / 2 ^ 24))

/-! The encoder, from the same map and layouts. -/

/-- The low byte of a word. -/
def loByte (v : Word) : Byte := v.extractLsb' 0 8

/-- The high byte of a word. -/
def hiByte (v : Word) : Byte := v.extractLsb' 8 8

/-- The bytes of a 16-bit operand, low byte first (R66, R92). -/
def wordBytes (v : Word) : List Byte := [loByte v, hiByte v]

/-- The bytes of a 24-bit operand, the bank last (R92). -/
def longBytes (v : Addr) : List Byte := [v.extractLsb' 0 8, v.extractLsb' 8 8, v.extractLsb' 16 8]

/-- The bytes of a `#const` at a width (R93). -/
def constBytes (w : Width) (v : Word) : List Byte :=
  match w with
  | .w8 => [loByte v]
  | .w16 => wordBytes v

/-- The bytes of an instruction at given widths, opcode first (R91, R92, R110). -/
def encode (w : Widths) : Instr → List Byte
  | .brk sig => [0x00#8, sig]
  | .oraDpXInd dp => [0x01#8, dp]
  | .cop sig => [0x02#8, sig]
  | .oraSr sr => [0x03#8, sr]
  | .tsbDp dp => [0x04#8, dp]
  | .oraDp dp => [0x05#8, dp]
  | .aslDp dp => [0x06#8, dp]
  | .oraDpIndLong dp => [0x07#8, dp]
  | .php => [0x08#8]
  | .oraImm imm => 0x09#8 :: constBytes w.m imm
  | .aslA => [0x0A#8]
  | .phd => [0x0B#8]
  | .tsbAbs addr => 0x0C#8 :: wordBytes addr
  | .oraAbs addr => 0x0D#8 :: wordBytes addr
  | .aslAbs addr => 0x0E#8 :: wordBytes addr
  | .oraLong addr => 0x0F#8 :: longBytes addr
  | .bpl disp => [0x10#8, disp]
  | .oraDpIndY dp => [0x11#8, dp]
  | .oraDpInd dp => [0x12#8, dp]
  | .oraSrIndY sr => [0x13#8, sr]
  | .trbDp dp => [0x14#8, dp]
  | .oraDpX dp => [0x15#8, dp]
  | .aslDpX dp => [0x16#8, dp]
  | .oraDpIndLongY dp => [0x17#8, dp]
  | .clc => [0x18#8]
  | .oraAbsY addr => 0x19#8 :: wordBytes addr
  | .incA => [0x1A#8]
  | .tcs => [0x1B#8]
  | .trbAbs addr => 0x1C#8 :: wordBytes addr
  | .oraAbsX addr => 0x1D#8 :: wordBytes addr
  | .aslAbsX addr => 0x1E#8 :: wordBytes addr
  | .oraLongX addr => 0x1F#8 :: longBytes addr
  | .jsrAbs addr => 0x20#8 :: wordBytes addr
  | .andDpXInd dp => [0x21#8, dp]
  | .jsl addr => 0x22#8 :: longBytes addr
  | .andSr sr => [0x23#8, sr]
  | .bitDp dp => [0x24#8, dp]
  | .andDp dp => [0x25#8, dp]
  | .rolDp dp => [0x26#8, dp]
  | .andDpIndLong dp => [0x27#8, dp]
  | .plp => [0x28#8]
  | .andImm imm => 0x29#8 :: constBytes w.m imm
  | .rolA => [0x2A#8]
  | .pld => [0x2B#8]
  | .bitAbs addr => 0x2C#8 :: wordBytes addr
  | .andAbs addr => 0x2D#8 :: wordBytes addr
  | .rolAbs addr => 0x2E#8 :: wordBytes addr
  | .andLong addr => 0x2F#8 :: longBytes addr
  | .bmi disp => [0x30#8, disp]
  | .andDpIndY dp => [0x31#8, dp]
  | .andDpInd dp => [0x32#8, dp]
  | .andSrIndY sr => [0x33#8, sr]
  | .bitDpX dp => [0x34#8, dp]
  | .andDpX dp => [0x35#8, dp]
  | .rolDpX dp => [0x36#8, dp]
  | .andDpIndLongY dp => [0x37#8, dp]
  | .sec => [0x38#8]
  | .andAbsY addr => 0x39#8 :: wordBytes addr
  | .decA => [0x3A#8]
  | .tsc => [0x3B#8]
  | .bitAbsX addr => 0x3C#8 :: wordBytes addr
  | .andAbsX addr => 0x3D#8 :: wordBytes addr
  | .rolAbsX addr => 0x3E#8 :: wordBytes addr
  | .andLongX addr => 0x3F#8 :: longBytes addr
  | .rti => [0x40#8]
  | .eorDpXInd dp => [0x41#8, dp]
  | .wdm ignored => [0x42#8, ignored]
  | .eorSr sr => [0x43#8, sr]
  | .mvp bank1 bank2 => [0x44#8, bank1, bank2]
  | .eorDp dp => [0x45#8, dp]
  | .lsrDp dp => [0x46#8, dp]
  | .eorDpIndLong dp => [0x47#8, dp]
  | .pha => [0x48#8]
  | .eorImm imm => 0x49#8 :: constBytes w.m imm
  | .lsrA => [0x4A#8]
  | .phk => [0x4B#8]
  | .jmpAbs addr => 0x4C#8 :: wordBytes addr
  | .eorAbs addr => 0x4D#8 :: wordBytes addr
  | .lsrAbs addr => 0x4E#8 :: wordBytes addr
  | .eorLong addr => 0x4F#8 :: longBytes addr
  | .bvc disp => [0x50#8, disp]
  | .eorDpIndY dp => [0x51#8, dp]
  | .eorDpInd dp => [0x52#8, dp]
  | .eorSrIndY sr => [0x53#8, sr]
  | .mvn bank1 bank2 => [0x54#8, bank1, bank2]
  | .eorDpX dp => [0x55#8, dp]
  | .lsrDpX dp => [0x56#8, dp]
  | .eorDpIndLongY dp => [0x57#8, dp]
  | .cli => [0x58#8]
  | .eorAbsY addr => 0x59#8 :: wordBytes addr
  | .phy => [0x5A#8]
  | .tcd => [0x5B#8]
  | .jmpLong addr => 0x5C#8 :: longBytes addr
  | .eorAbsX addr => 0x5D#8 :: wordBytes addr
  | .lsrAbsX addr => 0x5E#8 :: wordBytes addr
  | .eorLongX addr => 0x5F#8 :: longBytes addr
  | .rts => [0x60#8]
  | .adcDpXInd dp => [0x61#8, dp]
  | .per disp => 0x62#8 :: wordBytes disp
  | .adcSr sr => [0x63#8, sr]
  | .stzDp dp => [0x64#8, dp]
  | .adcDp dp => [0x65#8, dp]
  | .rorDp dp => [0x66#8, dp]
  | .adcDpIndLong dp => [0x67#8, dp]
  | .pla => [0x68#8]
  | .adcImm imm => 0x69#8 :: constBytes w.m imm
  | .rorA => [0x6A#8]
  | .rtl => [0x6B#8]
  | .jmpAbsInd addr => 0x6C#8 :: wordBytes addr
  | .adcAbs addr => 0x6D#8 :: wordBytes addr
  | .rorAbs addr => 0x6E#8 :: wordBytes addr
  | .adcLong addr => 0x6F#8 :: longBytes addr
  | .bvs disp => [0x70#8, disp]
  | .adcDpIndY dp => [0x71#8, dp]
  | .adcDpInd dp => [0x72#8, dp]
  | .adcSrIndY sr => [0x73#8, sr]
  | .stzDpX dp => [0x74#8, dp]
  | .adcDpX dp => [0x75#8, dp]
  | .rorDpX dp => [0x76#8, dp]
  | .adcDpIndLongY dp => [0x77#8, dp]
  | .sei => [0x78#8]
  | .adcAbsY addr => 0x79#8 :: wordBytes addr
  | .ply => [0x7A#8]
  | .tdc => [0x7B#8]
  | .jmpAbsXInd addr => 0x7C#8 :: wordBytes addr
  | .adcAbsX addr => 0x7D#8 :: wordBytes addr
  | .rorAbsX addr => 0x7E#8 :: wordBytes addr
  | .adcLongX addr => 0x7F#8 :: longBytes addr
  | .bra disp => [0x80#8, disp]
  | .staDpXInd dp => [0x81#8, dp]
  | .brl disp => 0x82#8 :: wordBytes disp
  | .staSr sr => [0x83#8, sr]
  | .styDp dp => [0x84#8, dp]
  | .staDp dp => [0x85#8, dp]
  | .stxDp dp => [0x86#8, dp]
  | .staDpIndLong dp => [0x87#8, dp]
  | .dey => [0x88#8]
  | .bitImm imm => 0x89#8 :: constBytes w.m imm
  | .txa => [0x8A#8]
  | .phb => [0x8B#8]
  | .styAbs addr => 0x8C#8 :: wordBytes addr
  | .staAbs addr => 0x8D#8 :: wordBytes addr
  | .stxAbs addr => 0x8E#8 :: wordBytes addr
  | .staLong addr => 0x8F#8 :: longBytes addr
  | .bcc disp => [0x90#8, disp]
  | .staDpIndY dp => [0x91#8, dp]
  | .staDpInd dp => [0x92#8, dp]
  | .staSrIndY sr => [0x93#8, sr]
  | .styDpX dp => [0x94#8, dp]
  | .staDpX dp => [0x95#8, dp]
  | .stxDpY dp => [0x96#8, dp]
  | .staDpIndLongY dp => [0x97#8, dp]
  | .tya => [0x98#8]
  | .staAbsY addr => 0x99#8 :: wordBytes addr
  | .txs => [0x9A#8]
  | .txy => [0x9B#8]
  | .stzAbs addr => 0x9C#8 :: wordBytes addr
  | .staAbsX addr => 0x9D#8 :: wordBytes addr
  | .stzAbsX addr => 0x9E#8 :: wordBytes addr
  | .staLongX addr => 0x9F#8 :: longBytes addr
  | .ldyImm imm => 0xA0#8 :: constBytes w.x imm
  | .ldaDpXInd dp => [0xA1#8, dp]
  | .ldxImm imm => 0xA2#8 :: constBytes w.x imm
  | .ldaSr sr => [0xA3#8, sr]
  | .ldyDp dp => [0xA4#8, dp]
  | .ldaDp dp => [0xA5#8, dp]
  | .ldxDp dp => [0xA6#8, dp]
  | .ldaDpIndLong dp => [0xA7#8, dp]
  | .tay => [0xA8#8]
  | .ldaImm imm => 0xA9#8 :: constBytes w.m imm
  | .tax => [0xAA#8]
  | .plb => [0xAB#8]
  | .ldyAbs addr => 0xAC#8 :: wordBytes addr
  | .ldaAbs addr => 0xAD#8 :: wordBytes addr
  | .ldxAbs addr => 0xAE#8 :: wordBytes addr
  | .ldaLong addr => 0xAF#8 :: longBytes addr
  | .bcs disp => [0xB0#8, disp]
  | .ldaDpIndY dp => [0xB1#8, dp]
  | .ldaDpInd dp => [0xB2#8, dp]
  | .ldaSrIndY sr => [0xB3#8, sr]
  | .ldyDpX dp => [0xB4#8, dp]
  | .ldaDpX dp => [0xB5#8, dp]
  | .ldxDpX dp => [0xB6#8, dp]
  | .ldaDpIndLongY dp => [0xB7#8, dp]
  | .clv => [0xB8#8]
  | .ldaAbsY addr => 0xB9#8 :: wordBytes addr
  | .tsx => [0xBA#8]
  | .tyx => [0xBB#8]
  | .ldyAbsX addr => 0xBC#8 :: wordBytes addr
  | .ldaAbsX addr => 0xBD#8 :: wordBytes addr
  | .ldxAbsX addr => 0xBE#8 :: wordBytes addr
  | .ldaLongX addr => 0xBF#8 :: longBytes addr
  | .cpyImm imm => 0xC0#8 :: constBytes w.x imm
  | .cmpDpXInd dp => [0xC1#8, dp]
  | .rep k => [0xC2#8, k]
  | .cmpSr sr => [0xC3#8, sr]
  | .cpyDp dp => [0xC4#8, dp]
  | .cmpDp dp => [0xC5#8, dp]
  | .decDp dp => [0xC6#8, dp]
  | .cmpDpIndLong dp => [0xC7#8, dp]
  | .iny => [0xC8#8]
  | .cmpImm imm => 0xC9#8 :: constBytes w.m imm
  | .dex => [0xCA#8]
  | .wai => [0xCB#8]
  | .cpyAbs addr => 0xCC#8 :: wordBytes addr
  | .cmpAbs addr => 0xCD#8 :: wordBytes addr
  | .decAbs addr => 0xCE#8 :: wordBytes addr
  | .cmpLong addr => 0xCF#8 :: longBytes addr
  | .bne disp => [0xD0#8, disp]
  | .cmpDpIndY dp => [0xD1#8, dp]
  | .cmpDpInd dp => [0xD2#8, dp]
  | .cmpSrIndY sr => [0xD3#8, sr]
  | .pei dp => [0xD4#8, dp]
  | .cmpDpX dp => [0xD5#8, dp]
  | .decDpX dp => [0xD6#8, dp]
  | .cmpDpIndLongY dp => [0xD7#8, dp]
  | .cld => [0xD8#8]
  | .cmpAbsY addr => 0xD9#8 :: wordBytes addr
  | .phx => [0xDA#8]
  | .stp => [0xDB#8]
  | .jmpAbsIndLong addr => 0xDC#8 :: wordBytes addr
  | .cmpAbsX addr => 0xDD#8 :: wordBytes addr
  | .decAbsX addr => 0xDE#8 :: wordBytes addr
  | .cmpLongX addr => 0xDF#8 :: longBytes addr
  | .cpxImm imm => 0xE0#8 :: constBytes w.x imm
  | .sbcDpXInd dp => [0xE1#8, dp]
  | .sep k => [0xE2#8, k]
  | .sbcSr sr => [0xE3#8, sr]
  | .cpxDp dp => [0xE4#8, dp]
  | .sbcDp dp => [0xE5#8, dp]
  | .incDp dp => [0xE6#8, dp]
  | .sbcDpIndLong dp => [0xE7#8, dp]
  | .inx => [0xE8#8]
  | .sbcImm imm => 0xE9#8 :: constBytes w.m imm
  | .nop => [0xEA#8]
  | .xba => [0xEB#8]
  | .cpxAbs addr => 0xEC#8 :: wordBytes addr
  | .sbcAbs addr => 0xED#8 :: wordBytes addr
  | .incAbs addr => 0xEE#8 :: wordBytes addr
  | .sbcLong addr => 0xEF#8 :: longBytes addr
  | .beq disp => [0xF0#8, disp]
  | .sbcDpIndY dp => [0xF1#8, dp]
  | .sbcDpInd dp => [0xF2#8, dp]
  | .sbcSrIndY sr => [0xF3#8, sr]
  | .pea addr => 0xF4#8 :: wordBytes addr
  | .sbcDpX dp => [0xF5#8, dp]
  | .incDpX dp => [0xF6#8, dp]
  | .sbcDpIndLongY dp => [0xF7#8, dp]
  | .sed => [0xF8#8]
  | .sbcAbsY addr => 0xF9#8 :: wordBytes addr
  | .plx => [0xFA#8]
  | .xce => [0xFB#8]
  | .jsrAbsXInd addr => 0xFC#8 :: wordBytes addr
  | .sbcAbsX addr => 0xFD#8 :: wordBytes addr
  | .incAbsX addr => 0xFE#8 :: wordBytes addr
  | .sbcLongX addr => 0xFF#8 :: longBytes addr

end Sys2Proof
end

