-- ==== Sys2Proof/Machine/Fetch.lean ====
section
/-! DEFINITION. Fetching an instruction (spec rules R82, R85, R100): the bytes at `PBR:PC` and on, wrapping in the program
bank, decoded on the variant at the widths in force. A fetch reads memory as it stands and changes no state. -/

namespace Sys2Proof.Machine

/-- The address of byte `k` of the instruction at `PBR:PC` (R85). -/
def fetchAddr (s : State) (k : Nat) : Addr := fullAddr s.pbr (s.pc + BitVec.ofNat 16 k)

/-- Byte `k` of the instruction at `PBR:PC` (R85). -/
def fetchByte (s : State) (k : Nat) : Byte := s.byteAt (fetchAddr s k)

/-- `len` of the instruction at `PBR:PC` (R93). -/
def fetchLength (s : State) : Nat := opcodeLength s.widths (fetchByte s 0)

/-- Whether byte 0 up to byte `n - 1` of the instruction avoid `IO_REGIONS` (R85). -/
def fetchClear (s : State) (n : Nat) : Bool := (List.range n).all fun k => !s.isIo (fetchAddr s k)

/-- The instruction at `PBR:PC` (R100), or why the step has none: a byte in `IO_REGIONS` (R85), or an opcode byte that is not
available on the variant (R97). -/
def fetchInstr (s : State) : Except Refusal Instr :=
  if !fetchClear s 1 then .error .fetchFromIo
  else
    match decodeOp s.cfg.variant s.widths (fetchByte s 0) (fetchByte s 1) (fetchByte s 2) (fetchByte s 3) with
    | none => .error (.illegalOpcode (fetchByte s 0))
    | some i => if fetchClear s (fetchLength s) then .ok i else .error .fetchFromIo

/-- Bytes placed in memory at `PBR:PC` and on: a program loaded from outside the machine (log 6). -/
def placeBytes (s : State) : Nat → List Byte → State
  | _, [] => s
  | k, v :: rest => placeBytes { s with mem := Memory.write s.mem (fetchAddr s k).toNat v } (k + 1) rest

end Sys2Proof.Machine
end

