-- ==== Sys2Proof/Machine/Sampling.lean ====
section
/-! DEFINITION. What a step does first: the sampling of the interrupt inputs in each run state (spec rules R390, R395), and
the moves of the host between steps (R403). -/

namespace Sys2Proof.Machine

/-- What the sampling at the start of a step decides (R390, R395). -/
inductive Sampled where
  /-- The reset sequence is taken. -/
  | reset
  /-- ABORT is asserted and modelled; the spec gives no entry. -/
  | abort
  /-- An NMI is taken. -/
  | nmi
  /-- An IRQ is taken. -/
  | irq
  /-- A masked IRQ ends a wait with no handler. -/
  | wake
  /-- Nothing happens: still waiting or stopped. -/
  | stay
  /-- The instruction at `PBR:PC` is executed. -/
  | execute
deriving DecidableEq, Repr

/-- The order RESET, ABORT, NMI, IRQ (R390), and the steps of `Waiting` and `Stopped` (R395). -/
def sample (s : State) : Sampled :=
  if s.resetLine then .reset
  else
    match s.run with
    | .stopped => .stay
    | .waiting =>
      if s.cfg.abortModelled && s.abortPending then .abort
      else if s.nmiPending then .nmi
      else if s.irqLine && !s.flagI then .irq
      else if s.irqLine then .wake
      else .stay
    | .running =>
      if s.cfg.abortModelled && s.abortPending then .abort
      else if s.nmiPending then .nmi
      else if s.irqLine && !s.flagI then .irq
      else .execute

/-- NMI entry (R388): the latch is cleared, then the entry sequence with the address of the next instruction. -/
def takeNmi (s : State) : State := interrupt .nmi s.pc { s with nmiPending := false }

/-- IRQ entry (R387). -/
def takeIrq (s : State) : State := interrupt .irq s.pc s

/-- The moves of the host between two steps (R383, R403, R254). -/
inductive HostAction where
  /-- The IRQ line is driven to a level. -/
  | irqLine (level : Bool)
  /-- An edge on the NMI input. -/
  | nmiEdge
  /-- The RES line is driven to a level. -/
  | resetLine (level : Bool)
  /-- An edge on the ABORT input; only where `ABORT_MODELLED`. -/
  | abortEdge
  /-- The Overflow pin sets v; only where `SO_CONNECTED`. -/
  | setOverflow
deriving DecidableEq, Repr

/-- The state after a move of the host. -/
def hostAct (h : HostAction) (s : State) : State :=
  match h with
  | .irqLine level => { s with irqLine := level }
  | .nmiEdge => { s with nmiPending := true }
  | .resetLine level => { s with resetLine := level }
  | .abortEdge => if s.cfg.abortModelled then { s with abortPending := true } else s
  | .setOverflow => if s.cfg.soConnected then s.setFlagV true else s

end Sys2Proof.Machine
end

