-- ==== Sys2Proof/Machine/Step.lean ====
section
/-! DEFINITION. One step of the processor (spec rule R11), and where it fetches its next instruction. -/

namespace Sys2Proof.Machine

/-- One step: the inputs are sampled (R390, R395); if nothing is taken, the instruction at `PBR:PC` is fetched, decoded and
performed. -/
def step (s : State) : Host.Outcome State Fault Refusal :=
  match sample s with
  | .reset => .next (resetSequence s)
  | .abort => .refused .abortEntryNotGiven
  | .nmi => .next (takeNmi s)
  | .irq => .next (takeIrq s)
  | .wake => .next { s with run := .running }
  | .stay => .next s
  | .execute =>
    match fetchInstr s with
    | .error r => .refused r
    | .ok i => exec i s

/-- `s` with the instruction whose bits are `w` (bits above `nbits` zero) at `PBR:PC`, where a step fetches. Memory is written
from outside the machine (log 6). -/
def State.withFetchWord (s : State) (nbits w : Nat) : State :=
  let bits := w % 2 ^ nbits
  placeBytes s 0 [BitVec.ofNat 8 bits, BitVec.ofNat 8 (bits / 2 ^ 8), BitVec.ofNat 8 (bits / 2 ^ 16),
    BitVec.ofNat 8 (bits / 2 ^ 24)]

end Sys2Proof.Machine
end

