-- ==== Sys2Proof/Safety.lean ====
section
/-! DEFINITION. What a safe state and a safe run are, in the terms the statements use: the invariants I1 to I4 of spec rule
R34, the run states an 8-bit variant can be in (R45), the canonical form of memory, a run that a halt condition ends (R6, R403), and the
vocabulary of frames: which fields, flags and bytes of memory two states share. -/

namespace Sys2Proof.Machine

/-- I1 of R34: on the 8-bit variants e = 1 and D, DBR and PBR are 0. -/
abbrev State.InvI1 (s : State) : Prop :=
  s.cfg.variant ≠ .v65816 → s.e = true ∧ s.d = 0#16 ∧ s.dbr = 0#8 ∧ s.pbr = 0#8

/-- I2 of R34: with e = 1, bits 5 and 4 of P are held at 1. -/
abbrev State.InvI2 (s : State) : Prop := s.e = true → s.flagM = true ∧ s.flagX = true

/-- I3 of R34: with e = 1 the stack pointer is in page 1. -/
abbrev State.InvI3 (s : State) : Prop := s.e = true → high s.sp = 0x01#8

/-- I4 of R34: with an index width of 8 the high bytes of X and Y are 0. -/
abbrev State.InvI4 (s : State) : Prop := s.xw = .w8 → high s.x = 0#8 ∧ high s.y = 0#8

/-- R45: `Waiting` and `Stopped` exist on V65816 only. -/
abbrev State.InvRun (s : State) : Prop := s.run ≠ .running → s.cfg.variant = .v65816

/-- R389: without `ABORT_MODELLED` the latch of the ABORT input is never set. -/
abbrev State.InvAbort (s : State) : Prop := s.abortPending = true → s.cfg.abortModelled = true

/-- What every reachable state satisfies: I1 to I4 of R34, R45, R389, and the canonical form of memory. -/
structure State.Inv (s : State) : Prop where
  i1 : s.InvI1
  i2 : s.InvI2
  i3 : s.InvI3
  i4 : s.InvI4
  run : s.InvRun
  abort : s.InvAbort
  mem : Memory.wf s.mem

/-- R61: on the 8-bit variants memory has bank 0 only. -/
abbrev State.MemInBank0 (s : State) : Prop := s.cfg.variant ≠ .v65816 → ∀ c ∈ s.mem, c.1 < 2 ^ 16

/-- A step that has a next state. -/
def Completes (r : Result) : Prop := ∃ t, r = .next t

/-- A run of at most `fuel` steps that `HALT_CONDITION` ends, or `Stopped` with no reset (R6, R403; log 32). -/
def runUntil (halt : State → Bool) : Nat → State → Result
  | 0, s => .next s
  | fuel + 1, s =>
    if halt s || (s.run == .stopped && !s.resetLine) then .next s
    else
      match step s with
      | .next t => runUntil halt fuel t
      | .fault r => .fault r
      | .refused r => .refused r

/-! Frames. -/

/-- The fields of the state other than `pc`, `mem`, `ioLog` and `draws`. -/
inductive Field where
  | cfg | a | b | x | y | sp | d | dbr | pbr | p | e | run | irqLine | nmiPending | resetLine | abortPending
deriving DecidableEq, Repr

/-- Two states agree on a field. -/
def Field.same (f : Field) (s t : State) : Prop :=
  match f with
  | .cfg => t.cfg = s.cfg
  | .a => t.a = s.a
  | .b => t.b = s.b
  | .x => t.x = s.x
  | .y => t.y = s.y
  | .sp => t.sp = s.sp
  | .d => t.d = s.d
  | .dbr => t.dbr = s.dbr
  | .pbr => t.pbr = s.pbr
  | .p => t.p = s.p
  | .e => t.e = s.e
  | .run => t.run = s.run
  | .irqLine => t.irqLine = s.irqLine
  | .nmiPending => t.nmiPending = s.nmiPending
  | .resetLine => t.resetLine = s.resetLine
  | .abortPending => t.abortPending = s.abortPending

/-- Every field but those listed (and `pc`, `mem`, `ioLog`, `draws`) is the same in both states. -/
def SameBut (except : List Field) (s t : State) : Prop := ∀ f, f ∉ except → f.same s t

/-- The eight bits of P (R28). -/
inductive Flag where
  | c | z | i | d | x | m | v | n
deriving DecidableEq, Repr

/-- A flag of a state. -/
def Flag.of (f : Flag) (s : State) : Bool :=
  match f with
  | .c => s.flagC
  | .z => s.flagZ
  | .i => s.flagI
  | .d => s.flagD
  | .x => s.flagX
  | .m => s.flagM
  | .v => s.flagV
  | .n => s.flagN

/-- Every flag but those listed is the same in both states. -/
def FlagsBut (except : List Flag) (s t : State) : Prop := ∀ f, f ∉ except → f.of t = f.of s

/-- Every byte of memory is the same in both states. -/
def MemSame (s t : State) : Prop := ∀ a, t.byteAt a = s.byteAt a

/-- `t` has the memory of `s`, and the I/O record and the count of draws that the reads up to `r` leave. -/
def NothingStored (s r t : State) : Prop := MemSame s t ∧ t.ioLog = r.ioLog ∧ t.draws = r.draws

/-- The accumulator at width `w`, as fields: A, or A and B (R21). -/
def accFields : Width → List Field
  | .w8 => [.a]
  | .w16 => [.a, .b]

/-! Bytes stored. -/

/-- A byte and the address it is stored to. -/
abbrev Store := Addr × Byte

/-- The record of the stores that go to `IO_REGIONS` (R63, R69). -/
def ioStores (s : State) (l : List Store) : List IoEvent :=
  (l.filter fun c => s.isIo c.1).map fun c => .write c.1 c.2

/-- `t` has the memory of `s` but for the bytes of `l`, each of which holds the byte stored to it unless the address is in
`IO_REGIONS` or not `Writable` (R63). -/
def MemStored (l : List Store) (s t : State) : Prop :=
  (∀ c ∈ l, t.byteAt c.1 = if s.isIo c.1 || !s.writable c.1 then s.byteAt c.1 else c.2) ∧
  ∀ a, a ∉ l.map (·.1) → t.byteAt a = s.byteAt a

/-- `MemStored`, and the I/O record and the count of draws are those of `r`, with the stores to `IO_REGIONS` added. -/
def BytesStored (l : List Store) (s r t : State) : Prop :=
  MemStored l s t ∧ t.ioLog = r.ioLog ++ ioStores s l ∧ t.draws = r.draws

/-- The bytes a store of `w` bits at a location writes, low byte first (R65). -/
def storeAt (u : Variant) (w : Width) (l : Loc) (v : BitVec w.bits) : List Store :=
  match w, v with
  | .w8, v => [(byteAddr u l 0, v)]
  | .w16, v => [(byteAddr u l 0, low v), (byteAddr u l 1, high v)]

/-- S after `n` pushes (R71). -/
def stackDown (e : Bool) (sp : Word) : Nat → Word
  | 0 => sp
  | n + 1 => stackDown e (if e then 0x01#8 ++ (low sp - 1#8) else sp - 1#16) n

/-- S after `n` pulls (R72). -/
def stackUp (e : Bool) (sp : Word) : Nat → Word
  | 0 => sp
  | n + 1 => stackUp e (if e then 0x01#8 ++ (low sp + 1#8) else sp + 1#16) n

/-- Where bytes pushed one after another go, the first pushed first (R71). -/
def pushedAt (e : Bool) (sp : Word) : List Byte → List Store
  | [] => []
  | v :: rest => (fullAddr 0#8 sp, v) :: pushedAt e (stackDown e sp 1) rest

/-- The bytes a push of `w` bits pushes, in the order pushed: high byte first (R71). -/
def pushOrder (w : Width) (v : BitVec w.bits) : List Byte :=
  match w, v with
  | .w8, v => [v]
  | .w16, v => [high v, low v]

/-- `PCnext` of R11: past the instruction, within the program bank. -/
def pcNext (i : Instr) (s : State) : Word := s.pc + BitVec.ofNat 16 (encode s.widths i).length

end Sys2Proof.Machine
end

