-- ==== Sys2Proof/Certificates/Slice0/Obligations.lean ====
section
/-! DEFINITION. The statements for the provers, and the words they are written in: which instructions a statement is about, and
which operand each of them has. -/

namespace Sys2Proof.Claims

open Sys2Proof.Machine

/-- The operand of each form of ADC (R161). -/
def adcForm : Instr → Option Operand
  | .adcDpXInd o => some (.mem (.dpXInd o))
  | .adcSr o => some (.mem (.sr o))
  | .adcDp o => some (.mem (.dp o))
  | .adcDpIndLong o => some (.mem (.dpIndLong o))
  | .adcImm v => some (.imm v)
  | .adcAbs o => some (.mem (.abs o))
  | .adcLong o => some (.mem (.long o))
  | .adcDpIndY o => some (.mem (.dpIndY o))
  | .adcDpInd o => some (.mem (.dpInd o))
  | .adcSrIndY o => some (.mem (.srIndY o))
  | .adcDpX o => some (.mem (.dpX o))
  | .adcDpIndLongY o => some (.mem (.dpIndLongY o))
  | .adcAbsY o => some (.mem (.absY o))
  | .adcAbsX o => some (.mem (.absX o))
  | .adcLongX o => some (.mem (.longX o))
  | _ => none

/-- The operand of each form of SBC (R163). -/
def sbcForm : Instr → Option Operand
  | .sbcDpXInd o => some (.mem (.dpXInd o))
  | .sbcSr o => some (.mem (.sr o))
  | .sbcDp o => some (.mem (.dp o))
  | .sbcDpIndLong o => some (.mem (.dpIndLong o))
  | .sbcImm v => some (.imm v)
  | .sbcAbs o => some (.mem (.abs o))
  | .sbcLong o => some (.mem (.long o))
  | .sbcDpIndY o => some (.mem (.dpIndY o))
  | .sbcDpInd o => some (.mem (.dpInd o))
  | .sbcSrIndY o => some (.mem (.srIndY o))
  | .sbcDpX o => some (.mem (.dpX o))
  | .sbcDpIndLongY o => some (.mem (.dpIndLongY o))
  | .sbcAbsY o => some (.mem (.absY o))
  | .sbcAbsX o => some (.mem (.absX o))
  | .sbcLongX o => some (.mem (.longX o))
  | _ => none

/-- The operand of each form of AND (R191). -/
def andForm : Instr → Option Operand
  | .andDpXInd o => some (.mem (.dpXInd o))
  | .andSr o => some (.mem (.sr o))
  | .andDp o => some (.mem (.dp o))
  | .andDpIndLong o => some (.mem (.dpIndLong o))
  | .andImm v => some (.imm v)
  | .andAbs o => some (.mem (.abs o))
  | .andLong o => some (.mem (.long o))
  | .andDpIndY o => some (.mem (.dpIndY o))
  | .andDpInd o => some (.mem (.dpInd o))
  | .andSrIndY o => some (.mem (.srIndY o))
  | .andDpX o => some (.mem (.dpX o))
  | .andDpIndLongY o => some (.mem (.dpIndLongY o))
  | .andAbsY o => some (.mem (.absY o))
  | .andAbsX o => some (.mem (.absX o))
  | .andLongX o => some (.mem (.longX o))
  | _ => none

/-- The operand of each form of EOR (R193). -/
def eorForm : Instr → Option Operand
  | .eorDpXInd o => some (.mem (.dpXInd o))
  | .eorSr o => some (.mem (.sr o))
  | .eorDp o => some (.mem (.dp o))
  | .eorDpIndLong o => some (.mem (.dpIndLong o))
  | .eorImm v => some (.imm v)
  | .eorAbs o => some (.mem (.abs o))
  | .eorLong o => some (.mem (.long o))
  | .eorDpIndY o => some (.mem (.dpIndY o))
  | .eorDpInd o => some (.mem (.dpInd o))
  | .eorSrIndY o => some (.mem (.srIndY o))
  | .eorDpX o => some (.mem (.dpX o))
  | .eorDpIndLongY o => some (.mem (.dpIndLongY o))
  | .eorAbsY o => some (.mem (.absY o))
  | .eorAbsX o => some (.mem (.absX o))
  | .eorLongX o => some (.mem (.longX o))
  | _ => none

/-- The operand of each form of ORA (R194). -/
def oraForm : Instr → Option Operand
  | .oraDpXInd o => some (.mem (.dpXInd o))
  | .oraSr o => some (.mem (.sr o))
  | .oraDp o => some (.mem (.dp o))
  | .oraDpIndLong o => some (.mem (.dpIndLong o))
  | .oraImm v => some (.imm v)
  | .oraAbs o => some (.mem (.abs o))
  | .oraLong o => some (.mem (.long o))
  | .oraDpIndY o => some (.mem (.dpIndY o))
  | .oraDpInd o => some (.mem (.dpInd o))
  | .oraSrIndY o => some (.mem (.srIndY o))
  | .oraDpX o => some (.mem (.dpX o))
  | .oraDpIndLongY o => some (.mem (.dpIndLongY o))
  | .oraAbsY o => some (.mem (.absY o))
  | .oraAbsX o => some (.mem (.absX o))
  | .oraLongX o => some (.mem (.longX o))
  | _ => none

/-- The operand location of each memory form of BIT (R192). -/
def bitForm : Instr → Option AddrMode
  | .bitDp o => some (.dp o)
  | .bitAbs o => some (.abs o)
  | .bitDpX o => some (.dpX o)
  | .bitAbsX o => some (.absX o)
  | _ => none

/-- The operand of each form of CMP (R229). -/
def cmpForm : Instr → Option Operand
  | .cmpDpXInd o => some (.mem (.dpXInd o))
  | .cmpSr o => some (.mem (.sr o))
  | .cmpDp o => some (.mem (.dp o))
  | .cmpDpIndLong o => some (.mem (.dpIndLong o))
  | .cmpImm v => some (.imm v)
  | .cmpAbs o => some (.mem (.abs o))
  | .cmpLong o => some (.mem (.long o))
  | .cmpDpIndY o => some (.mem (.dpIndY o))
  | .cmpDpInd o => some (.mem (.dpInd o))
  | .cmpSrIndY o => some (.mem (.srIndY o))
  | .cmpDpX o => some (.mem (.dpX o))
  | .cmpDpIndLongY o => some (.mem (.dpIndLongY o))
  | .cmpAbsY o => some (.mem (.absY o))
  | .cmpAbsX o => some (.mem (.absX o))
  | .cmpLongX o => some (.mem (.longX o))
  | _ => none

/-- The operand of each form of CPX (R230). -/
def cpxForm : Instr → Option Operand
  | .cpxImm v => some (.imm v)
  | .cpxDp o => some (.mem (.dp o))
  | .cpxAbs o => some (.mem (.abs o))
  | _ => none

/-- The operand of each form of CPY (R231). -/
def cpyForm : Instr → Option Operand
  | .cpyImm v => some (.imm v)
  | .cpyDp o => some (.mem (.dp o))
  | .cpyAbs o => some (.mem (.abs o))
  | _ => none

/-- The operand of each form of LDA (R271). -/
def ldaForm : Instr → Option Operand
  | .ldaDpXInd o => some (.mem (.dpXInd o))
  | .ldaSr o => some (.mem (.sr o))
  | .ldaDp o => some (.mem (.dp o))
  | .ldaDpIndLong o => some (.mem (.dpIndLong o))
  | .ldaImm v => some (.imm v)
  | .ldaAbs o => some (.mem (.abs o))
  | .ldaLong o => some (.mem (.long o))
  | .ldaDpIndY o => some (.mem (.dpIndY o))
  | .ldaDpInd o => some (.mem (.dpInd o))
  | .ldaSrIndY o => some (.mem (.srIndY o))
  | .ldaDpX o => some (.mem (.dpX o))
  | .ldaDpIndLongY o => some (.mem (.dpIndLongY o))
  | .ldaAbsY o => some (.mem (.absY o))
  | .ldaAbsX o => some (.mem (.absX o))
  | .ldaLongX o => some (.mem (.longX o))
  | _ => none

/-- The operand of each form of LDY (R273). -/
def ldyForm : Instr → Option Operand
  | .ldyImm v => some (.imm v)
  | .ldyDp o => some (.mem (.dp o))
  | .ldyAbs o => some (.mem (.abs o))
  | .ldyDpX o => some (.mem (.dpX o))
  | .ldyAbsX o => some (.mem (.absX o))
  | _ => none

/-- The operand of each form of LDX; the index register of opcodes BE and B6 is the parameter's, and under `REFUSE` they have no
operand (R272). -/
def ldxForm (k : LdxIndex) : Instr → Option Operand
  | .ldxImm v => some (.imm v)
  | .ldxDp o => some (.mem (.dp o))
  | .ldxAbs o => some (.mem (.abs o))
  | .ldxDpX o =>
    match k with
    | .x => some (.mem (.dpX o))
    | .y => some (.mem (.dpY o))
    | .refuse => none
  | .ldxAbsX o =>
    match k with
    | .x => some (.mem (.absX o))
    | .y => some (.mem (.absY o))
    | .refuse => none
  | _ => none

/-- The operand location of each form of STA (R274). -/
def staForm : Instr → Option AddrMode
  | .staDpXInd o => some (.dpXInd o)
  | .staSr o => some (.sr o)
  | .staDp o => some (.dp o)
  | .staDpIndLong o => some (.dpIndLong o)
  | .staAbs o => some (.abs o)
  | .staLong o => some (.long o)
  | .staDpIndY o => some (.dpIndY o)
  | .staDpInd o => some (.dpInd o)
  | .staSrIndY o => some (.srIndY o)
  | .staDpX o => some (.dpX o)
  | .staDpIndLongY o => some (.dpIndLongY o)
  | .staAbsY o => some (.absY o)
  | .staAbsX o => some (.absX o)
  | .staLongX o => some (.longX o)
  | _ => none

/-- The operand location of each form of STX (R275). -/
def stxForm : Instr → Option AddrMode
  | .stxDp o => some (.dp o)
  | .stxAbs o => some (.abs o)
  | .stxDpY o => some (.dpY o)
  | _ => none

/-- The operand location of each form of STY (R276). -/
def styForm : Instr → Option AddrMode
  | .styDp o => some (.dp o)
  | .styAbs o => some (.abs o)
  | .styDpX o => some (.dpX o)
  | _ => none

/-- The operand location of each form of STZ (R277). -/
def stzForm : Instr → Option AddrMode
  | .stzDp o => some (.dp o)
  | .stzDpX o => some (.dpX o)
  | .stzAbs o => some (.abs o)
  | .stzAbsX o => some (.absX o)
  | _ => none

/-- The operand location of each memory form of DEC (R166). -/
def decForm : Instr → Option AddrMode
  | .decDp o => some (.dp o)
  | .decAbs o => some (.abs o)
  | .decDpX o => some (.dpX o)
  | .decAbsX o => some (.absX o)
  | _ => none

/-- The operand location of each memory form of INC (R169). -/
def incForm : Instr → Option AddrMode
  | .incDp o => some (.dp o)
  | .incAbs o => some (.abs o)
  | .incDpX o => some (.dpX o)
  | .incAbsX o => some (.absX o)
  | _ => none

/-- The operand location of each form of TRB (R200). -/
def trbForm : Instr → Option AddrMode
  | .trbDp o => some (.dp o)
  | .trbAbs o => some (.abs o)
  | _ => none

/-- The operand location of each form of TSB (R201). -/
def tsbForm : Instr → Option AddrMode
  | .tsbDp o => some (.dp o)
  | .tsbAbs o => some (.abs o)
  | _ => none

/-- The four shifts and rotates (R195). -/
inductive ShiftOp where
  | asl | lsr | rol | ror
deriving DecidableEq, Repr

/-- The operation and the operand location of each memory form of a shift or rotate (R196 to R199). -/
def shiftForm : Instr → Option (ShiftOp × AddrMode)
  | .aslDp o => some (.asl, .dp o)
  | .aslAbs o => some (.asl, .abs o)
  | .aslDpX o => some (.asl, .dpX o)
  | .aslAbsX o => some (.asl, .absX o)
  | .lsrDp o => some (.lsr, .dp o)
  | .lsrAbs o => some (.lsr, .abs o)
  | .lsrDpX o => some (.lsr, .dpX o)
  | .lsrAbsX o => some (.lsr, .absX o)
  | .rolDp o => some (.rol, .dp o)
  | .rolAbs o => some (.rol, .abs o)
  | .rolDpX o => some (.rol, .dpX o)
  | .rolAbsX o => some (.rol, .absX o)
  | .rorDp o => some (.ror, .dp o)
  | .rorAbs o => some (.ror, .abs o)
  | .rorDpX o => some (.ror, .dpX o)
  | .rorAbsX o => some (.ror, .absX o)
  | _ => none

/-- The operation of each accumulator form of a shift or rotate (R196 to R199). -/
def shiftAccForm : Instr → Option ShiftOp
  | .aslA => some .asl
  | .lsrA => some .lsr
  | .rolA => some .rol
  | .rorA => some .ror
  | _ => none

/-- The result of a shift or rotate of `v` at a width, as a number: `v * 2` or `v div 2`, with 0 or the carry `c` at the free end
(R196 to R199). -/
def ShiftOp.result (op : ShiftOp) (bits v c : Nat) : Nat :=
  match op with
  | .asl => v * 2 % 2 ^ bits
  | .lsr => v / 2
  | .rol => v * 2 % 2 ^ bits + c
  | .ror => v / 2 + c * 2 ^ (bits - 1)

/-- The bit that a shift or rotate of `v` moves into c (R195). -/
def ShiftOp.out (op : ShiftOp) (bits v : Nat) : Bool :=
  match op with
  | .asl | .rol => decide (2 ^ (bits - 1) ≤ v)
  | .lsr | .ror => decide (v % 2 = 1)

/-- The flag each flag instruction writes, and the value it writes (R220 to R226). -/
def flagForm : Instr → Option (Flag × Bool)
  | .clc => some (.c, false)
  | .sec => some (.c, true)
  | .cld => some (.d, false)
  | .sed => some (.d, true)
  | .cli => some (.i, false)
  | .sei => some (.i, true)
  | .clv => some (.v, false)
  | _ => none

/-- The flag each conditional branch tests, the value that makes it branch, and its displacement (R233 to R240). -/
def branchForm : Instr → Option (Flag × Bool × Byte)
  | .bcc k => some (.c, false, k)
  | .bcs k => some (.c, true, k)
  | .beq k => some (.z, true, k)
  | .bne k => some (.z, false, k)
  | .bmi k => some (.n, true, k)
  | .bpl k => some (.n, false, k)
  | .bvc k => some (.v, false, k)
  | .bvs k => some (.v, true, k)
  | _ => none

/-- The transfers into an index register: whether it is X (else Y), and the 16-bit source (R279, R280, R285, R288, R290). -/
def indexTransferForm (s : State) : Instr → Option (Bool × Word)
  | .tax => some (true, s.c)
  | .tay => some (false, s.c)
  | .tsx => some (true, s.sp)
  | .txy => some (false, s.x)
  | .tyx => some (true, s.y)
  | _ => none

/-- The transfers into the accumulator: the width written and the 16-bit source (R283, R284, R286, R289). -/
def accTransferForm (s : State) : Instr → Option (Width × Word)
  | .txa => some (s.mw, s.x)
  | .tya => some (s.mw, s.y)
  | .tdc => some (.w16, s.d)
  | .tsc => some (.w16, s.sp)
  | _ => none

/-- The bytes each push that reads no memory pushes, in the order pushed (R317, R319 to R326). -/
def pushForm (s : State) : Instr → Option (List Byte)
  | .pha => some (pushOrder s.mw (s.acc s.mw))
  | .phx => some (pushOrder s.xw (s.xAt s.xw))
  | .phy => some (pushOrder s.xw (s.yAt s.xw))
  | .php => some [s.p]
  | .phb => some [s.dbr]
  | .phk => some [s.pbr]
  | .phd => some [high s.d, low s.d]
  | .pea v => some [high v, low v]
  | .per k => some [high (s.pc + 3#16 + k), low (s.pc + 3#16 + k)]
  | _ => none

/-- How many bytes each of the 65816-only stack instructions pushes (R74). -/
def newPushBytes : Instr → Nat
  | .pea _ | .pei _ | .per _ | .phd | .jsrAbsXInd _ => 2
  | .jsl _ => 3
  | _ => 0

/-- How many bytes each of the 65816-only stack instructions pulls (R74). -/
def newPullBytes : Instr → Nat
  | .plb => 1
  | .pld => 2
  | .rtl => 3
  | _ => 0

/-- R74: with e = 1 the instruction would push a byte after S has wrapped from 0x0100, or pull past 0x01FF. -/
def WrapsPage1 (i : Instr) (s : State) : Prop :=
  s.e = true ∧ ((low s.sp).toNat + 1 < newPushBytes i ∨ 0xFF < (low s.sp).toNat + newPullBytes i ∧ 0 < newPullBytes i)

/-- Every read-only operand form, stores and read-modify-writes apart (R121 to R136). -/
def readForm (k : LdxIndex) (i : Instr) : Option Operand :=
  adcForm i <|> sbcForm i <|> andForm i <|> eorForm i <|> oraForm i <|> (bitForm i).map .mem <|> cmpForm i <|>
  cpxForm i <|> cpyForm i <|> ldaForm i <|> ldxForm k i <|> ldyForm i

/-- Instructions whose rule says where PC goes other than to `PCnext`: control transfers and the block moves. -/
def setsPC : Instr → Bool
  | .bcc _ | .bcs _ | .beq _ | .bne _ | .bmi _ | .bpl _ | .bvc _ | .bvs _ | .bra _ | .brl _ | .jmpAbs _ | .jmpAbsInd _
  | .jmpAbsXInd _ | .jmpLong _ | .jmpAbsIndLong _ | .jsrAbs _ | .jsrAbsXInd _ | .jsl _ | .rts | .rtl | .rti | .brk _
  | .cop _ | .mvn _ _ | .mvp _ _ => true
  | _ => false

/-- n and z are those of the value `v` (R10), and every flag outside `except` is as it was. -/
def FlagsNZ {n : Nat} (v : BitVec n) (except : List Flag) (s t : State) : Prop :=
  t.flagN = v.getLsbD (n - 1) ∧ t.flagZ = decide (v.toNat = 0) ∧ FlagsBut except s t

/-- The modulus of a linear address: 2^24 on V65816, 2^16 on the 8-bit variants (R61, R64). -/
def addressSpace (v : Variant) : Nat :=
  match v with
  | .v65816 => 2 ^ 24
  | .v6502 | .v65C02 => 2 ^ 16

/-- The bytes at which a vector, a word in bank 0, lies. -/
def vectorPlain (vec : Word) (s : State) : Prop :=
  s.isIo (fullAddr 0#8 vec) = false ∧ s.isIo (fullAddr 0#8 (vec + 1#16)) = false

/-- The word at a vector. -/
def vectorWord (vec : Word) (s : State) : Word := s.byteAt (fullAddr 0#8 (vec + 1#16)) ++ s.byteAt (fullAddr 0#8 vec)

/-- What an entry to an interrupt handler leaves (R386): from `s` to `t`, with return offset `ret`, pushed status byte `status`
and vector `vec`. Where the vector lies in `IO_REGIONS` the host chooses PC. -/
def Entered (ret : Word) (status : Byte) (vec : Word) (s t : State) : Prop :=
  let bytes := (if s.e then [] else [s.pbr]) ++ [high ret, low ret, status]
  MemStored (pushedAt s.e s.sp bytes) s t ∧ t.sp = stackDown s.e s.sp (if s.e then 3 else 4) ∧
  t.flagI = true ∧ t.flagD = (decide (s.cfg.variant = .v6502) && s.flagD) ∧ FlagsBut [.i, .d] s t ∧
  t.pbr = 0#8 ∧ t.run = .running ∧ SameBut [.sp, .p, .pbr, .run, .nmiPending] s t ∧
  (vectorPlain vec s → t.pc = vectorWord vec t ∧ t.ioLog = s.ioLog ++ ioStores s (pushedAt s.e s.sp bytes) ∧
    t.draws = s.draws)

/-- The address is plain memory: not in `IO_REGIONS`, and `Writable`. -/
def Plain (s : State) (a : Addr) : Prop := s.isIo a = false ∧ s.writable a = true

/-- The next `n` bytes of stack to be pushed to are plain memory. -/
def PlainStack (n : Nat) (s : State) : Prop := ∀ k < n, Plain s (fullAddr 0#8 (stackDown s.e s.sp k))

/-- An instruction performed `n` times over, each time with a next state. -/
def performed (i : Instr) : Nat → State → State → Prop
  | 0, s, t => t = s
  | n + 1, s, t => ∃ u, exec i s = .next u ∧ performed i n u t

/-- The block moves: the instruction, whether it goes upward, and its two bank bytes. -/
def moveForm : Instr → Option (Bool × Byte × Byte)
  | .mvn k1 k2 => some (true, k1, k2)
  | .mvp k1 k2 => some (false, k1, k2)
  | _ => none

/-- An offset moved `k` places up or down within its bank. -/
def stepped (up : Bool) (v : Word) (k : Nat) : Word := if up then v + BitVec.ofNat 16 k else v - BitVec.ofNat 16 k


/-- The opcode bytes refused on V6502, as R112 lists them. -/
def refusedOn6502 : List Nat :=
  [0x02, 0x03, 0x04, 0x07, 0x0B, 0x0C, 0x0F, 0x12, 0x13, 0x14, 0x17, 0x1A, 0x1B, 0x1C, 0x1F, 0x22,
   0x23, 0x27, 0x2B, 0x2F, 0x32, 0x33, 0x34, 0x37, 0x3A, 0x3B, 0x3C, 0x3F, 0x42, 0x43, 0x44, 0x47,
   0x4B, 0x4F, 0x52, 0x53, 0x54, 0x57, 0x5A, 0x5B, 0x5C, 0x5F, 0x62, 0x63, 0x64, 0x67, 0x6B, 0x6F,
   0x72, 0x73, 0x74, 0x77, 0x7A, 0x7B, 0x7C, 0x7F, 0x80, 0x82, 0x83, 0x87, 0x89, 0x8B, 0x8F, 0x92,
   0x93, 0x97, 0x9B, 0x9C, 0x9E, 0x9F, 0xA3, 0xA7, 0xAB, 0xAF, 0xB2, 0xB3, 0xB7, 0xBB, 0xBF, 0xC2,
   0xC3, 0xC7, 0xCB, 0xCF, 0xD2, 0xD3, 0xD4, 0xD7, 0xDA, 0xDB, 0xDC, 0xDF, 0xE2, 0xE3, 0xE7, 0xEB,
   0xEF, 0xF2, 0xF3, 0xF4, 0xF7, 0xFA, 0xFB, 0xFC, 0xFF]

/-- The opcode bytes refused on V65C02, as R112 lists them. -/
def refusedOn65C02 : List Nat :=
  [0x02, 0x03, 0x07, 0x0B, 0x0F, 0x13, 0x17, 0x1B, 0x1F, 0x22, 0x23, 0x27, 0x2B, 0x2F, 0x33, 0x37,
   0x3B, 0x3F, 0x42, 0x43, 0x44, 0x47, 0x4B, 0x4F, 0x53, 0x54, 0x57, 0x5B, 0x5C, 0x5F, 0x62, 0x63,
   0x67, 0x6B, 0x6F, 0x73, 0x77, 0x7B, 0x7F, 0x82, 0x83, 0x87, 0x8B, 0x8F, 0x93, 0x97, 0x9B, 0x9F,
   0xA3, 0xA7, 0xAB, 0xAF, 0xB3, 0xB7, 0xBB, 0xBF, 0xC2, 0xC3, 0xC7, 0xCB, 0xCF, 0xD3, 0xD4, 0xD7,
   0xDB, 0xDC, 0xDF, 0xE2, 0xE3, 0xE7, 0xEB, 0xEF, 0xF3, 0xF4, 0xF7, 0xFB, 0xFC, 0xFF]

end Sys2Proof.Claims

open Sys2Proof Sys2Proof.Machine Sys2Proof.Claims

/-- On every variant and at every pair of widths, decoding the bytes of a well-formed instruction, whatever bytes
follow them, gives the instruction and leaves exactly those following bytes. -/
def Obligations.DecodeAfterEncode : Prop :=
  ∀ (v : Variant) (w : Widths) (i : Instr) (rest : List Byte), i.wellFormed v w = true →
    decode v w (encode w i ++ rest) = .ok (i, rest)

/-- On every variant and at every pair of widths, if a string of bytes decodes to an instruction and a rest, the
instruction is well formed there and its encoding followed by the rest is the string. -/
def Obligations.EncodeAfterDecode : Prop :=
  ∀ (v : Variant) (w : Widths) (bytes : List Byte) (i : Instr) (rest : List Byte),
    decode v w bytes = .ok (i, rest) → i.wellFormed v w = true ∧ encode w i ++ rest = bytes

/-- An opcode byte selects no instruction on V6502 exactly when it is one of the 105 bytes R112 lists, on V65C02
exactly when it is one of its 78 bytes, and never on V65816, at every pair of widths and whatever bytes follow. The
availability cells of R110 are in part recovered from general knowledge (log 26), R112 is derived from them, and that
an unavailable byte is refused is the spec's own decision D12 (R97; log 9). -/
def Obligations.RefusedOpcodeBytes : Prop :=
  ∀ (w : Widths) (op b1 b2 b3 : Byte),
    (decodeOp .v6502 w op b1 b2 b3 = none ↔ op.toNat ∈ refusedOn6502) ∧
    (decodeOp .v65C02 w op b1 b2 b3 = none ↔ op.toNat ∈ refusedOn65C02) ∧
    decodeOp .v65816 w op b1 b2 b3 ≠ none

/-- The length of the instruction an opcode byte begins is its length at 8-bit widths, one more for the eight opcodes
of IMM_M when the data width is 16, and one more for the four opcodes of IMM_X when the index width is 16; and that
base length is between 1 and 4. -/
def Obligations.InstructionLengths : Prop :=
  ∀ (w : Widths) (op : Byte),
    opcodeLength w op = opcodeLength ⟨.w8, .w8⟩ op +
      (if op.toNat ∈ [0x09, 0x29, 0x49, 0x69, 0x89, 0xA9, 0xC9, 0xE9] ∧ w.m = .w16 then 1 else 0) +
      (if op.toNat ∈ [0xA0, 0xA2, 0xC0, 0xE0] ∧ w.x = .w16 then 1 else 0) ∧
    1 ≤ opcodeLength ⟨.w8, .w8⟩ op ∧ opcodeLength ⟨.w8, .w8⟩ op ≤ 4

/-- Fourteen strings of bytes, written out from the rows of the opcode map, one or more for each family, decode to the
instructions those rows name; a fifteenth, FB on V65C02, which does not have it, is refused as an illegal opcode with
that byte. The refusal is the spec's own decision D12 (R97; log 9), and that 7E is on V6502 is a cell R110 marks as
general knowledge (log 26). -/
def Obligations.DecodedWords : Prop :=
  decode .v65816 ⟨.w16, .w16⟩ [0x69#8, 0x34#8, 0x12#8] = .ok (.adcImm 0x1234#16, []) ∧
  decode .v6502 ⟨.w8, .w8⟩ [0x69#8, 0x34#8, 0x12#8] = .ok (.adcImm 0x0034#16, [0x12#8]) ∧
  decode .v6502 ⟨.w8, .w8⟩ [0xE1#8, 0x70#8] = .ok (.sbcDpXInd 0x70#8, []) ∧
  decode .v65816 ⟨.w8, .w8⟩ [0x2F#8, 0x56#8, 0x34#8, 0x12#8] = .ok (.andLong 0x123456#24, []) ∧
  decode .v6502 ⟨.w8, .w8⟩ [0x7E#8, 0x00#8, 0x20#8] = .ok (.rorAbsX 0x2000#16, []) ∧
  decode .v6502 ⟨.w8, .w8⟩ [0xD0#8, 0xFE#8] = .ok (.bne 0xFE#8, []) ∧
  decode .v65816 ⟨.w8, .w8⟩ [0x82#8, 0x00#8, 0x10#8] = .ok (.brl 0x1000#16, []) ∧
  decode .v65816 ⟨.w8, .w8⟩ [0x22#8, 0x00#8, 0x80#8, 0x02#8] = .ok (.jsl 0x028000#24, []) ∧
  decode .v65816 ⟨.w8, .w16⟩ [0xA2#8, 0x34#8, 0x12#8] = .ok (.ldxImm 0x1234#16, []) ∧
  decode .v65816 ⟨.w8, .w8⟩ [0x93#8, 0x03#8] = .ok (.staSrIndY 0x03#8, []) ∧
  decode .v65816 ⟨.w8, .w8⟩ [0xD4#8, 0x10#8] = .ok (.pei 0x10#8, []) ∧
  decode .v6502 ⟨.w8, .w8⟩ [0x00#8, 0x07#8] = .ok (.brk 0x07#8, []) ∧
  decode .v65816 ⟨.w8, .w8⟩ [0x54#8, 0x7E#8, 0x7F#8] = .ok (.mvn 0x7E#8 0x7F#8, []) ∧
  decode .v65816 ⟨.w8, .w8⟩ [0xFB#8] = .ok (.xce, []) ∧
  decode .v65C02 ⟨.w8, .w8⟩ [0xFB#8] = .error (.illegalOpcode 0xFB#8)

/-- Where no input is taken and the bytes at PBR:PC, read within the program bank and outside IO_REGIONS, are the
encoding of a well-formed instruction at the widths in force, the step is the meaning of that instruction. -/
def Obligations.StepRunsTheInstruction : Prop :=
  ∀ (s : State) (i : Instr), s.resetLine = false → s.run = .running →
    (s.cfg.abortModelled && s.abortPending) = false → s.nmiPending = false → (s.irqLine && !s.flagI) = false →
    i.wellFormed s.cfg.variant s.widths = true →
    (∀ k (h : k < (encode s.widths i).length), s.isIo (fullAddr s.pbr (s.pc + BitVec.ofNat 16 k)) = false ∧
      s.byteAt (fullAddr s.pbr (s.pc + BitVec.ofNat 16 k)) = (encode s.widths i)[k]) →
    step s = exec i s

/-- Where no input is taken: if the byte at PBR:PC lies in IO_REGIONS the step is refused as a fetch from I/O; if it
lies outside and is not available on the variant the step is refused with that byte; if it is available but a later
byte of the instruction lies in IO_REGIONS the step is refused as a fetch from I/O. Both refusals are the spec's own
decisions D12 and D31 (logs 9, 15). -/
def Obligations.StepRefusesTheFetch : Prop :=
  ∀ (s : State), s.resetLine = false → s.run = .running →
    (s.cfg.abortModelled && s.abortPending) = false → s.nmiPending = false → (s.irqLine && !s.flagI) = false →
    let op := s.byteAt (fullAddr s.pbr s.pc)
    (s.isIo (fullAddr s.pbr s.pc) = true → step s = .refused .fetchFromIo) ∧
    (s.isIo (fullAddr s.pbr s.pc) = false → s.cfg.variant.offers (opcodeCell op).since = false →
      step s = .refused (.illegalOpcode op)) ∧
    (s.isIo (fullAddr s.pbr s.pc) = false → s.cfg.variant.offers (opcodeCell op).since = true →
      (∃ k < opcodeLength s.widths op, s.isIo (fullAddr s.pbr (s.pc + BitVec.ofNat 16 k)) = true) →
      step s = .refused .fetchFromIo)

/-- With the reset line asserted a step answers a next state with e, m, x and i set, d clear but on V6502, the high
bytes of X and Y zero, S in page 1, D, DBR and PBR zero, no NMI or ABORT pending, the run state Running, memory, the
parameters and the lines as they were, and PC the word at VEC_RESET where that lies outside IO_REGIONS. The fields
R421 calls unspecified are not spoken of. Every reset value is the spec's own decision D10, from general knowledge
(logs 5, 21, 27). -/
def Obligations.ResetStep : Prop :=
  ∀ (s : State), s.resetLine = true → ∃ t, step s = .next t ∧
    t.e = true ∧ t.flagM = true ∧ t.flagX = true ∧ t.flagI = true ∧
    (s.cfg.variant ≠ .v6502 → t.flagD = false) ∧ high t.x = 0#8 ∧ high t.y = 0#8 ∧ high t.sp = 0x01#8 ∧
    t.d = 0#16 ∧ t.dbr = 0#8 ∧ t.pbr = 0#8 ∧ t.nmiPending = false ∧ t.abortPending = false ∧ t.run = .running ∧
    MemSame s t ∧ SameBut [.a, .b, .x, .y, .sp, .d, .dbr, .pbr, .p, .e, .run, .nmiPending, .abortPending] s t ∧
    (vectorPlain s.cfg.vecReset s → t.pc = vectorWord s.cfg.vecReset s ∧ t.ioLog = s.ioLog)

/-- With the reset line released, no modelled ABORT pending and the run state not Stopped: a pending NMI is taken
whatever i is, its latch is cleared, and the entry sequence runs with the current PC as the return offset, the vector
of the mode, and a status byte with b clear in emulation mode; with no NMI pending, an asserted IRQ line with i clear
enters likewise through its own vector. Priority, signalling and entry of hardware interrupts are the spec's own
decisions D8, D24, D34, D35 (logs 20, 27). A byte stored to IO_REGIONS goes to the I/O record and leaves memory alone,
and one stored where memory is not Writable is dropped (R63, D31; logs 15, 16, 25). -/
def Obligations.HardwareInterruptSteps : Prop :=
  ∀ (s : State), s.resetLine = false → s.run ≠ .stopped → (s.cfg.abortModelled && s.abortPending) = false →
    Memory.wf s.mem →
    (s.nmiPending = true → ∃ t, step s = .next t ∧ t.nmiPending = false ∧
      Entered s.pc (if s.e then (s.p &&& 0xCF#8) ||| 0x20#8 else s.p)
        (if s.e then s.cfg.vecNmiE else s.cfg.vecNmiN) s t) ∧
    (s.nmiPending = false → s.irqLine = true → s.flagI = false → ∃ t, step s = .next t ∧ t.nmiPending = false ∧
      Entered s.pc (if s.e then (s.p &&& 0xCF#8) ||| 0x20#8 else s.p)
        (if s.e then 0xFFFE#16 else s.cfg.vecIrqN) s t)

/-- With the reset line released: in Stopped a step changes nothing; in Waiting with neither a modelled ABORT nor an
NMI pending, a step changes nothing while the IRQ line is released, and with the line asserted and i set it only goes
back to Running. A modelled ABORT, in Running or Waiting, is refused. The spec's own decisions D9, D19 and D24 (logs
17, 20). -/
def Obligations.WaitingAndStoppedSteps : Prop :=
  ∀ (s : State), s.resetLine = false →
    (s.run = .stopped → step s = .next s) ∧
    (s.run ≠ .stopped → (s.cfg.abortModelled && s.abortPending) = true → step s = .refused .abortEntryNotGiven) ∧
    (s.run = .waiting → (s.cfg.abortModelled && s.abortPending) = false → s.nmiPending = false →
      (s.irqLine = false → step s = .next s) ∧
      (s.irqLine = true → s.flagI = true → step s = .next { s with run := .running }))

/-- From every state that satisfies I1 to I4, in which Waiting and Stopped occur on V65816 only, no ABORT is latched
unless modelled, and memory is in canonical form, every step that has a next state leads to such a state. I2 and I4
rest on the spec's own decision D29 (log 30). -/
def Obligations.InvariantKept : Prop :=
  ∀ (s t : State), s.Inv → step s = .next t → t.Inv

/-- The one state State.reset, which is V65816 with the default parameters, satisfies I1 to I4, the rules for the run
state and the ABORT latch, and the canonical form of memory; it also satisfies MemInBank0, which speaks of the 8-bit
variants only and so says nothing of this state. The variant, the parameters, the empty memory and the values R421
leaves unspecified are the model's choices (logs 1, 2, 3, 4, 19); the values R421 gives are the spec's own decision
D10 (log 27). -/
def Obligations.InvariantAtReset : Prop :=
  State.reset.Inv ∧ State.reset.MemInBank0

/-- From every state that satisfies the invariants, every move of the host between two steps (a line driven, an edge
latched, the Overflow pin) leads to such a state, and changes no register, no memory, no parameter and no flag but v,
which only the Overflow pin can set. That the host moves only between steps, by hostAct, is the model's choice (log
19); the signalling is the spec's own decision D8 (log 27) and the Overflow pin its decision D18 (log 18). -/
def Obligations.InvariantKeptByHost : Prop :=
  ∀ (h : HostAction) (s : State), s.Inv →
    (hostAct h s).Inv ∧
    SameBut [.p, .irqLine, .nmiPending, .resetLine, .abortPending] s (hostAct h s) ∧ MemSame s (hostAct h s) ∧
    (hostAct h s).pc = s.pc ∧ FlagsBut [.v] s (hostAct h s) ∧
    ((hostAct h s).flagV ≠ s.flagV → h = .setOverflow ∧ s.cfg.soConnected = true ∧ (hostAct h s).flagV = true)

/-- On V6502 and V65C02, from every state that satisfies the invariants and whose memory lists bank 0 only, every step
that has a next state leads to one whose memory lists bank 0 only. That an address of these variants has 16 bits the
spec marks as general knowledge (R61), and that it is held as bank 0 of a 24-bit address is log 34. -/
def Obligations.EightBitVariantsStayInBank0 : Prop :=
  ∀ (s t : State), s.Inv → s.MemInBank0 → step s = .next t → t.MemInBank0

/-- A step that has a next state leaves every parameter, the IRQ line and the reset line as they were, never sets the
NMI latch, and leaves the ABORT latch as it was or, by a reset, clear. That parameters and lines are fields no step
writes is the model's choice: logs 1, 19. -/
def Obligations.ParametersAndLinesConstant : Prop :=
  ∀ (s t : State), step s = .next t →
    t.cfg = s.cfg ∧ t.irqLine = s.irqLine ∧ t.resetLine = s.resetLine ∧
    (t.nmiPending = true → s.nmiPending = true) ∧
    (t.abortPending = s.abortPending ∨ (s.resetLine = true ∧ t.abortPending = false))

/-- If a step changes e, then either the reset line was asserted and e is now 1, or the step performed XCE and e is
now the c that was. No interrupt entry and no RTI changes e. That interrupt entry and RTI leave e alone the spec marks
as general knowledge (R33; log 27). -/
def Obligations.EmulationBitWriters : Prop :=
  ∀ (s t : State), step s = .next t → t.e ≠ s.e →
    (s.resetLine = true ∧ t.e = true) ∨ (fetchInstr s = .ok .xce ∧ exec .xce s = .next t ∧ t.e = s.flagC)

/-- If a step with the reset line released changes D, the instruction fetched at PBR:PC is TCD or PLD; if it changes
DBR, that instruction is PLB, MVN or MVP; if it changes PBR, that instruction is JMP long, JMP [addr], JSL, RTL, RTI,
BRK or COP, or the step took an NMI or an IRQ and PBR is now 0. The role of DBR, and MVN and MVP writing it, are the
spec's own decision D5; PBR 0 on the entry of a hardware interrupt is its decisions D8 and D35 (log 27). -/
def Obligations.DirectPageAndBankWriters : Prop :=
  ∀ (s t : State), step s = .next t → s.resetLine = false →
    (t.d ≠ s.d → fetchInstr s = .ok .tcd ∨ fetchInstr s = .ok .pld) ∧
    (t.dbr ≠ s.dbr → fetchInstr s = .ok .plb ∨ ∃ k1 k2, fetchInstr s = .ok (.mvn k1 k2) ∨ fetchInstr s = .ok (.mvp k1 k2)) ∧
    (t.pbr ≠ s.pbr →
      (t.pbr = 0#8 ∧ (sample s = .nmi ∨ sample s = .irq)) ∨ fetchInstr s = .ok .rtl ∨ fetchInstr s = .ok .rti ∨
      (∃ a, fetchInstr s = .ok (.jmpLong a) ∨ fetchInstr s = .ok (.jsl a)) ∨
      (∃ a, fetchInstr s = .ok (.jmpAbsIndLong a)) ∨
      ∃ k, fetchInstr s = .ok (.brk k) ∨ fetchInstr s = .ok (.cop k))

/-- A step that has a next state leaves the content of every address in IO_REGIONS, and of every address that is not
Writable, as it was. The model's reading of R62 and R63: logs 15, 16. -/
def Obligations.ReadOnlyBytesKept : Prop :=
  ∀ (s t : State) (a : Addr), step s = .next t → (s.isIo a = true ∨ s.writable a = false) → t.byteAt a = s.byteAt a

/-- An instruction that is no control transfer and no block move, if it has a next state, leaves PC past its encoding
at the widths in force, within the program bank, and PBR as it was. -/
def Obligations.PCAdvancesByTheLength : Prop :=
  ∀ (i : Instr) (s t : State), setsPC i = false → exec i s = .next t → t.pc = pcNext i s ∧ t.pbr = s.pbr

/-- Byte k of a LINEAR location lies k past its address modulo 2^24 on V65816 and modulo 2^16 on the 8-bit variants,
of a BANK location k past its offset within its bank, of a PAGE location k past its low byte within its page. Where
the bytes of a location lie outside IO_REGIONS, a read of two bytes gives byte 0 plus 256 times byte 1, a read of
three bytes adds 65536 times byte 2, and neither changes the state. A read of an address in IO_REGIONS changes nothing
but the I/O record and the count of free values. The wrap kinds are the spec's own decision D14; I/O values are free
(logs 15, 27). -/
def Obligations.MultiByteReads : Prop :=
  ∀ (s : State) (l : Loc),
    let u := s.cfg.variant
    let at' := fun k => byteAddr u l k
    (∀ a k, (byteAddr u ⟨a, .linear⟩ k).toNat = (a.toNat + k) % addressSpace u ∧
      (byteAddr u ⟨a, .bank⟩ k).toNat = a.toNat / 65536 * 65536 + (a.toNat % 65536 + k) % 65536 ∧
      (byteAddr u ⟨a, .page⟩ k).toNat = a.toNat / 256 * 256 + (a.toNat % 256 + k) % 256) ∧
    (s.isIo (at' 0) = false → s.isIo (at' 1) = false →
      (read16 l s).2 = s ∧
      (read16 l s).1.toNat = (s.byteAt (at' 0)).toNat + 256 * (s.byteAt (at' 1)).toNat ∧
      (s.isIo (at' 2) = false → (read24 l s).2 = s ∧
        (read24 l s).1.toNat =
          (s.byteAt (at' 0)).toNat + 256 * (s.byteAt (at' 1)).toNat + 65536 * (s.byteAt (at' 2)).toNat)) ∧
    (∀ a, s.isIo a = true → ∃ v, readByte a s = (v, { s with
      draws := s.draws + 1, ioLog := s.ioLog ++ [.read a v] }))

/-- Byte k of the operand of addr, long, addr,X, addr,Y and long,X lies at the base plus the index plus k, modulo the
address space, with DBR the bank of a 16-bit base; of sr,S at S plus the operand plus k within bank 0; of dp, dp,X and
dp,Y within the page of D on the 8-bit variants and in emulation mode with DL zero, and otherwise at D plus the
operand plus the index plus k within bank 0. These modes read nothing and are never refused. The formulas are the
spec's own decision D3 (log 27). -/
def Obligations.DirectAddresses : Prop :=
  ∀ (s : State) (base : Word) (long : Addr) (off : Byte) (k : Nat),
    let M := addressSpace s.cfg.variant
    let D := fun (i : Nat) =>
      if s.cfg.variant ≠ .v65816 ∨ (s.e = true ∧ s.d.toNat % 256 = 0) then
        s.d.toNat / 256 * 256 + (off.toNat + i + k) % 256
      else (s.d.toNat + off.toNat + i + k) % 65536
    (∀ m : AddrMode, ∀ n : Nat,
      (m, n) ∈ [(.abs base, (s.dbr.toNat * 65536 + base.toNat + k) % M), (.long long, (long.toNat + k) % M),
        (.absX base, (s.dbr.toNat * 65536 + base.toNat + s.x.toNat + k) % M),
        (.absY base, (s.dbr.toNat * 65536 + base.toNat + s.y.toNat + k) % M),
        (.longX long, (long.toNat + s.x.toNat + k) % M), (.sr off, (s.sp.toNat + off.toNat + k) % 65536),
        (.dp off, D 0), (.dpX off, D s.x.toNat), (.dpY off, D s.y.toNat)] →
      m.refusal s = none ∧ (m.resolve s).2 = s ∧ (byteAddr s.cfg.variant (m.resolve s).1 k).toNat = n)

/-- Byte k of the operand of (dp) and (dp,X) lies at the 16-bit pointer in the data bank plus k, of (dp),Y and
(sr,S),Y at that plus Y, of [dp] at the 24-bit pointer plus k, of [dp],Y at that plus Y, all modulo the address space;
the pointer of (dp) and (dp),Y is read at dp, that of (dp,X) at dp,X, that of (sr,S),Y at sr,S, and that of [dp] and
[dp],Y at D plus the operand within bank 0. The formulas are the spec's own decision D3 (log 27). -/
def Obligations.IndirectAddresses : Prop :=
  ∀ (s : State) (off : Byte) (k : Nat),
    let M := addressSpace s.cfg.variant
    let bank := s.dbr.toNat * 65536
    let direct := fun m : AddrMode => read16 (m.resolve s).1 s
    let long := read24 ⟨fullAddr 0#8 (s.d + off.zeroExtend 16), .bank⟩ s
    (∀ (m : AddrMode) (r : State) (n : Nat),
      (m, r, n) ∈ [
        (.dpInd off, (direct (.dp off)).2, (bank + (direct (.dp off)).1.toNat + k) % M),
        (.dpXInd off, (direct (.dpX off)).2, (bank + (direct (.dpX off)).1.toNat + k) % M),
        (.dpIndY off, (direct (.dp off)).2, (bank + (direct (.dp off)).1.toNat + s.y.toNat + k) % M),
        (.srIndY off, (direct (.sr off)).2, (bank + (direct (.sr off)).1.toNat + s.y.toNat + k) % M),
        (.dpIndLong off, long.2, (long.1.toNat + k) % M),
        (.dpIndLongY off, long.2, (long.1.toNat + s.y.toNat + k) % M)] →
      (m.resolve s).2 = r ∧ (byteAddr s.cfg.variant (m.resolve s).1 k).toNat = n)

/-- Of the instructions that read an operand or store to one: those with [dp] or [dp],Y are refused exactly when the
variant is V65816, e is 1, DL is 0 and the operand is above 0xFD; those with (dp,X) exactly when the variant is
V65816, e is 1, DL is not 0 and the low byte of D + dp + X is 0xFF; LDX dp,X and LDX addr,X under LDX_INDEX = REFUSE;
JMP (addr) exactly on V6502 with a low byte of 0xFF under JMP_IND_FF = FAULT; PEI when the variant is V65816, e is 1,
DL is 0 and the operand is 0xFF. Each such refusal is the outcome of exec. The refusals are the spec's own decisions
D3, D15, D17 (logs 11, 12, 13). -/
def Obligations.AddressingRefusals : Prop :=
  ∀ (s : State),
    (∀ (i : Instr) (o : Operand) (off : Byte), readForm s.cfg.ldxIndex i = some o ∨ (staForm i).map .mem = some o →
      (o = .mem (.dpIndLong off) ∨ o = .mem (.dpIndLongY off) →
        ((o.refusal s = some .directPageNewModeCrossesPage ↔
          s.cfg.variant = .v65816 ∧ s.e = true ∧ low s.d = 0#8 ∧ 0xFD < off.toNat) ∧
         (o.refusal s ≠ none → exec i s = .refused .directPageNewModeCrossesPage))) ∧
      (o = .mem (.dpXInd off) →
        ((o.refusal s = some .directPagePointerCrossesPage ↔
          s.cfg.variant = .v65816 ∧ s.e = true ∧ low s.d ≠ 0#8 ∧
            (s.d.toNat + off.toNat + s.x.toNat) % 256 = 0xFF) ∧
         (o.refusal s ≠ none → exec i s = .refused .directPagePointerCrossesPage)))) ∧
    (s.cfg.ldxIndex = .refuse → ∀ off base, exec (.ldxDpX off) s = .refused .ldxIndexInDoubt ∧
      exec (.ldxAbsX base) s = .refused .ldxIndexInDoubt) ∧
    (∀ a, exec (.jmpAbsInd a) s = .refused .jmpIndirectLowByteFF ↔
      s.cfg.variant = .v6502 ∧ low a = 0xFF#8 ∧ s.cfg.jmpIndFF = .fault) ∧
    (∀ off, exec (.pei off) s = .refused .directPageNewModeCrossesPage ↔
      s.cfg.variant = .v65816 ∧ s.e = true ∧ low s.d = 0#8 ∧ off = 0xFF#8)

/-- PEA, PER, PHD, PLD, PLB, JSL, RTL and JSR (addr,X), and PEI where its addressing mode is not refused, are refused
exactly when e is 1 and one of their pushes but the last would find S at the bottom of page 1, or one of their pulls
would find S at its top. The refusal is the spec's own decision D33 (log 10). -/
def Obligations.StackWrapRefusals : Prop :=
  ∀ (i : Instr) (s : State), 0 < newPushBytes i ∨ 0 < newPullBytes i →
    ¬ (i = .pei 0xFF#8 ∧ s.cfg.variant = .v65816 ∧ s.e = true ∧ low s.d = 0#8) →
    (exec i s = .refused .stackWrapsPage1 ↔ WrapsPage1 i s)

/-- Every form of ADC that its mode does not refuse, with d clear, answers a next state in which the accumulator at
the data width is the sum of accumulator, operand and c modulo 2^w, c is set exactly when the sum is at least 2^w, v
exactly when the signed sum does not fit, n and z are those of the result, PC is past the instruction, and no other
register, flag or byte of memory has changed. -/
def Obligations.AdcBinary : Prop :=
  ∀ (i : Instr) (o : Operand) (s : State), adcForm i = some o → o.refusal s = none → s.flagD = false →
    let w := s.mw
    let m := (o.read w s).1
    let sum := (s.acc w).toNat + m.toNat + s.flagC.toNat
    let signed := (s.acc w).toInt + m.toInt + s.flagC.toNat
    ∃ t, exec i s = .next t ∧ (t.acc w).toNat = sum % 2 ^ w.bits ∧ t.flagC = decide (2 ^ w.bits ≤ sum) ∧
      t.flagV = decide (signed < -2 ^ (w.bits - 1) ∨ 2 ^ (w.bits - 1) ≤ signed) ∧
      FlagsNZ (t.acc w) [.c, .z, .v, .n] s t ∧ t.pc = pcNext i s ∧ SameBut (.p :: accFields w) s t ∧
      NothingStored s (o.read w s).2 t

/-- Every form of SBC that its mode does not refuse, with d clear, answers a next state in which the accumulator at
the data width is accumulator minus operand minus (1 - c) modulo 2^w, c is set exactly when that difference is not
negative, v exactly when the signed difference does not fit, n and z are those of the result, PC is past the
instruction, and no other register, flag or byte of memory has changed. -/
def Obligations.SbcBinary : Prop :=
  ∀ (i : Instr) (o : Operand) (s : State), sbcForm i = some o → o.refusal s = none → s.flagD = false →
    let w := s.mw
    let m := (o.read w s).1
    let diff : Int := ((s.acc w).toNat : Int) - m.toNat - (1 - s.flagC.toNat)
    let signed : Int := (s.acc w).toInt - m.toInt - (1 - s.flagC.toNat)
    ∃ t, exec i s = .next t ∧ ((t.acc w).toNat : Int) = diff % 2 ^ w.bits ∧ t.flagC = decide (0 ≤ diff) ∧
      t.flagV = decide (signed < -2 ^ (w.bits - 1) ∨ 2 ^ (w.bits - 1) ≤ signed) ∧
      FlagsNZ (t.acc w) [.c, .z, .v, .n] s t ∧ t.pc = pcNext i s ∧ SameBut (.p :: accFields w) s t ∧
      NothingStored s (o.read w s).2 t

/-- Every form of ADC that its mode does not refuse, with d set, is refused by name when a digit of the accumulator or
of the operand at the data width is above 9, and otherwise answers a next state in which the accumulator is valid BCD
for the decimal sum with c modulo 10^(w/4), c is set exactly when the sum reaches that modulus, n and z on V65C02 and
V65816 are those of the result, and no other register, flag but v (and n and z on V6502), or byte of memory has
changed. The meaning of decimal mode and the refusal are the spec's own decision D11 (logs 7, 8); v, and n and z on
V6502, are free and not spoken of. -/
def Obligations.AdcDecimal : Prop :=
  ∀ (i : Instr) (o : Operand) (s : State), adcForm i = some o → o.refusal s = none → s.flagD = true →
    let w := s.mw
    let m := (o.read w s).1
    let bad := ∃ k < w.bits / 4, 9 < (s.acc w).toNat / 16 ^ k % 16 ∨ 9 < m.toNat / 16 ^ k % 16
    (bad → exec i s = .refused .adcNotBcd) ∧
    (¬ bad →
      let sum := bcdToInt (s.acc w) + bcdToInt m + s.flagC.toNat
    ∃ t, exec i s = .next t ∧ (∀ k < w.bits / 4, (t.acc w).toNat / 16 ^ k % 16 ≤ 9) ∧ bcdToInt (t.acc w) = sum % 10 ^ (w.bits / 4) ∧
      t.flagC = decide (10 ^ (w.bits / 4) ≤ sum) ∧
      (s.cfg.variant ≠ .v6502 → t.flagN = (t.acc w).getLsbD (w.bits - 1) ∧ t.flagZ = decide ((t.acc w).toNat = 0)) ∧
      FlagsBut [.c, .z, .v, .n] s t ∧ t.pc = pcNext i s ∧ SameBut (.p :: accFields w) s t ∧ MemSame s t ∧
      t.ioLog = (o.read w s).2.ioLog)

/-- Every form of SBC that its mode does not refuse, with d set, is refused by name when a digit of the accumulator or
of the operand at the data width is above 9, and otherwise answers a next state in which the accumulator is valid BCD
for the decimal difference modulo 10^(w/4), c is set exactly when no borrow was needed, n and z on V65C02 and V65816
are those of the result, and no other register, flag but v (and n and z on V6502), or byte of memory has changed. The
meaning of decimal mode and the refusal are the spec's own decision D11 (logs 7, 8); v, and n and z on V6502, are free
and not spoken of. -/
def Obligations.SbcDecimal : Prop :=
  ∀ (i : Instr) (o : Operand) (s : State), sbcForm i = some o → o.refusal s = none → s.flagD = true →
    let w := s.mw
    let m := (o.read w s).1
    let bad := ∃ k < w.bits / 4, 9 < (s.acc w).toNat / 16 ^ k % 16 ∨ 9 < m.toNat / 16 ^ k % 16
    (bad → exec i s = .refused .sbcNotBcd) ∧
    (¬ bad →
      let diff : Int := (bcdToInt (s.acc w) : Int) - bcdToInt m - (1 - s.flagC.toNat)
    ∃ t, exec i s = .next t ∧ (∀ k < w.bits / 4, (t.acc w).toNat / 16 ^ k % 16 ≤ 9) ∧
      (bcdToInt (t.acc w) : Int) = diff % (10 ^ (w.bits / 4) : Nat) ∧ t.flagC = decide (0 ≤ diff) ∧
      (s.cfg.variant ≠ .v6502 → t.flagN = (t.acc w).getLsbD (w.bits - 1) ∧ t.flagZ = decide ((t.acc w).toNat = 0)) ∧
      FlagsBut [.c, .z, .v, .n] s t ∧ t.pc = pcNext i s ∧ SameBut (.p :: accFields w) s t ∧ MemSame s t ∧
      t.ioLog = (o.read w s).2.ioLog)

/-- Every memory form of INC and DEC answers a next state in which the operand location holds its old value plus or
minus 1 modulo 2^w at the data width, n and z are those of the result, PC is past the instruction, and no register,
other flag or other byte of memory has changed. A byte stored to IO_REGIONS goes to the I/O record and leaves memory
alone, and one stored where memory is not Writable is dropped (R63, D31; logs 15, 16, 25). -/
def Obligations.IncDecMemory : Prop :=
  ∀ (i : Instr) (m : AddrMode) (d : Nat) (s : State), Memory.wf s.mem →
    (incForm i = some m ∧ d = 1) ∨ (decForm i = some m ∧ d = 2 ^ s.mw.bits - 1) →
    let w := s.mw
    let l := (m.resolve s).1
    let old := readAt w l s
    ∃ (t : State) (r : BitVec w.bits), exec i s = .next t ∧ r.toNat = (old.1.toNat + d) % 2 ^ w.bits ∧
      BytesStored (storeAt s.cfg.variant w l r) s old.2 t ∧ FlagsNZ r [.z, .n] s t ∧ t.pc = pcNext i s ∧
      SameBut [.p] s t

/-- INC A and DEC A change the accumulator at the data width, INX, DEX, INY and DEY the index register at the index
width with its high byte zero when that is 8; each by 1 modulo 2^w, with n and z those of the result, PC past the
instruction, and no other register, flag or byte of memory changed. -/
def Obligations.IncDecRegisters : Prop :=
  ∀ (s : State),
    (∀ i d, (i, d) ∈ [(Instr.incA, 1), (.decA, 2 ^ s.mw.bits - 1)] → ∃ t, exec i s = .next t ∧
      (t.acc s.mw).toNat = ((s.acc s.mw).toNat + d) % 2 ^ s.mw.bits ∧ FlagsNZ (t.acc s.mw) [.z, .n] s t ∧
      t.pc = pcNext i s ∧ SameBut (.p :: accFields s.mw) s t ∧ NothingStored s s t) ∧
    (∀ i d, (i, d) ∈ [(Instr.inx, 1), (.dex, 2 ^ s.xw.bits - 1)] → ∃ t, exec i s = .next t ∧
      t.x.toNat = (s.x.toNat + d) % 2 ^ s.xw.bits ∧ FlagsNZ (t.xAt s.xw) [.z, .n] s t ∧
      t.pc = pcNext i s ∧ SameBut [.p, .x] s t ∧ NothingStored s s t) ∧
    (∀ i d, (i, d) ∈ [(Instr.iny, 1), (.dey, 2 ^ s.xw.bits - 1)] → ∃ t, exec i s = .next t ∧
      t.y.toNat = (s.y.toNat + d) % 2 ^ s.xw.bits ∧ FlagsNZ (t.yAt s.xw) [.z, .n] s t ∧
      t.pc = pcNext i s ∧ SameBut [.p, .y] s t ∧ NothingStored s s t)

/-- Every form of AND, EOR and ORA that its mode does not refuse answers a next state in which each bit of the
accumulator at the data width is the and, exclusive or, or or of that bit of the old accumulator and of the operand, n
and z are those of the result, PC is past the instruction, and no other register, flag or byte of memory has changed.
-/
def Obligations.LogicOperations : Prop :=
  ∀ (i : Instr) (o : Operand) (f : Bool → Bool → Bool) (s : State),
    (andForm i = some o ∧ f = and) ∨ (eorForm i = some o ∧ f = xor) ∨ (oraForm i = some o ∧ f = or) →
    o.refusal s = none →
    let w := s.mw
    let m := (o.read w s).1
    ∃ t, exec i s = .next t ∧
      (∀ k < w.bits, (t.acc w).getLsbD k = f ((s.acc w).getLsbD k) (m.getLsbD k)) ∧
      FlagsNZ (t.acc w) [.z, .n] s t ∧ t.pc = pcNext i s ∧ SameBut (.p :: accFields w) s t ∧
      NothingStored s (o.read w s).2 t

/-- Every memory form of BIT answers a next state in which z is set exactly when no bit is set in both the accumulator
and the operand at the data width, n and v are the two top bits of the operand; BIT #const does the same for z and
leaves n and v; PC is past the instruction and no register, other flag or byte of memory has changed. -/
def Obligations.BitTests : Prop :=
  ∀ (s : State),
    (∀ (i : Instr) (m : AddrMode), bitForm i = some m →
      let v := ((Operand.mem m).read s.mw s).1
      ∃ t, exec i s = .next t ∧
        (t.flagZ = true ↔ ∀ k < s.mw.bits, ((s.acc s.mw).getLsbD k && v.getLsbD k) = false) ∧
        t.flagN = v.getLsbD (s.mw.bits - 1) ∧ t.flagV = v.getLsbD (s.mw.bits - 2) ∧ FlagsBut [.z, .v, .n] s t ∧
        t.pc = pcNext i s ∧ SameBut [.p] s t ∧ NothingStored s ((Operand.mem m).read s.mw s).2 t) ∧
    (∀ imm : Word, ∃ t, exec (.bitImm imm) s = .next t ∧
      (t.flagZ = true ↔ ∀ k < s.mw.bits, ((s.acc s.mw).getLsbD k && imm.getLsbD k) = false) ∧
      FlagsBut [.z] s t ∧ t.pc = pcNext (.bitImm imm) s ∧ SameBut [.p] s t ∧ NothingStored s s t)

/-- Every memory form of ASL, LSR, ROL and ROR answers a next state in which the operand location holds its old value
shifted by one bit at the data width with 0 or the old c at the free end, c is the bit shifted out, n and z are those
of the result, PC is past the instruction, and no register, other flag or other byte of memory has changed. A byte
stored to IO_REGIONS goes to the I/O record and leaves memory alone, and one stored where memory is not Writable is
dropped (R63, D31; logs 15, 16, 25). -/
def Obligations.ShiftsOfMemory : Prop :=
  ∀ (i : Instr) (op : ShiftOp) (m : AddrMode) (s : State), Memory.wf s.mem → shiftForm i = some (op, m) →
    let w := s.mw
    let l := (m.resolve s).1
    let old := readAt w l s
    ∃ (t : State) (r : BitVec w.bits), exec i s = .next t ∧
      r.toNat = op.result w.bits old.1.toNat s.flagC.toNat ∧ t.flagC = op.out w.bits old.1.toNat ∧
      BytesStored (storeAt s.cfg.variant w l r) s old.2 t ∧ FlagsNZ r [.c, .z, .n] s t ∧ t.pc = pcNext i s ∧
      SameBut [.p] s t

/-- The accumulator forms of ASL, LSR, ROL and ROR answer a next state in which the accumulator at the data width is
shifted by one bit with 0 or the old c at the free end, c is the bit shifted out, n and z are those of the result, PC
is past the instruction, and no other register, flag or byte of memory has changed. -/
def Obligations.ShiftsOfTheAccumulator : Prop :=
  ∀ (i : Instr) (op : ShiftOp) (s : State), shiftAccForm i = some op →
    let w := s.mw
    ∃ t, exec i s = .next t ∧ (t.acc w).toNat = op.result w.bits (s.acc w).toNat s.flagC.toNat ∧
      t.flagC = op.out w.bits (s.acc w).toNat ∧ FlagsNZ (t.acc w) [.c, .z, .n] s t ∧ t.pc = pcNext i s ∧
      SameBut (.p :: accFields w) s t ∧ NothingStored s s t

/-- Every form of TRB and TSB answers a next state in which the operand location holds its old value with the bits
that are set in the accumulator cleared (TRB) or set (TSB), z is set exactly when the accumulator and the old value
have no bit in common, PC is past the instruction, and no register, other flag or other byte of memory has changed.
That z tests the value read before it is modified the spec marks as general knowledge (R200; log 27). A byte stored to
IO_REGIONS goes to the I/O record and leaves memory alone, and one stored where memory is not Writable is dropped
(R63, D31; logs 15, 16, 25). -/
def Obligations.TestAndModifyBits : Prop :=
  ∀ (i : Instr) (m : AddrMode) (sets : Bool) (s : State), Memory.wf s.mem →
    (trbForm i = some m ∧ sets = false) ∨ (tsbForm i = some m ∧ sets = true) →
    let w := s.mw
    let l := (m.resolve s).1
    let old := readAt w l s
    ∃ (t : State) (r : BitVec w.bits), exec i s = .next t ∧
      (∀ k < w.bits, r.getLsbD k = if (s.acc w).getLsbD k then sets else old.1.getLsbD k) ∧
      BytesStored (storeAt s.cfg.variant w l r) s old.2 t ∧
      (t.flagZ = true ↔ ∀ k < w.bits, ((s.acc w).getLsbD k && old.1.getLsbD k) = false) ∧ FlagsBut [.z] s t ∧
      t.pc = pcNext i s ∧ SameBut [.p] s t

/-- Each of the seven flag instructions answers a next state in which its flag has its value, PC is past the
instruction, and no other flag, no register and no byte of memory has changed. What R224 and R226 say beyond the flag
written (the sampling after CLI, decision D34; who else writes v) is not spoken of here. -/
def Obligations.FlagInstructions : Prop :=
  ∀ (i : Instr) (f : Flag) (v : Bool) (s : State), flagForm i = some (f, v) →
    ∃ t, exec i s = .next t ∧ f.of t = v ∧ FlagsBut [f] s t ∧ t.pc = pcNext i s ∧ SameBut [.p] s t ∧
      NothingStored s s t

/-- REP answers a next state in which every bit of P whose operand bit is 1 is 0, SEP one in which it is 1, but for
bits 5 and 4 when e is 1; every other bit is as it was. REP changes no register; SEP clears the high bytes of X and Y
exactly when x is then 1 and leaves them otherwise. PC is past the instruction and no byte of memory has changed. That
SEP clears the high bytes of X and Y the spec marks as its own decision D29 (R228; log 30). -/
def Obligations.RepAndSep : Prop :=
  ∀ (k : Byte) (s : State),
    (∃ t, exec (.rep k) s = .next t ∧
      (∀ j < 8, t.p.getLsbD j = (s.p.getLsbD j && !(k.getLsbD j && !(s.e && (j == 4 || j == 5))))) ∧
      t.pc = pcNext (.rep k) s ∧ SameBut [.p] s t ∧ NothingStored s s t) ∧
    (∃ t, exec (.sep k) s = .next t ∧
      (∀ j < 8, t.p.getLsbD j = (s.p.getLsbD j || (k.getLsbD j && !(s.e && (j == 4 || j == 5))))) ∧
      t.x.toNat = (if t.flagX then s.x.toNat % 256 else s.x.toNat) ∧
      t.y.toNat = (if t.flagX then s.y.toNat % 256 else s.y.toNat) ∧
      t.pc = pcNext (.sep k) s ∧ SameBut [.p, .x, .y] s t ∧ NothingStored s s t)

/-- Every form of CMP, CPX and CPY that its mode does not refuse answers a next state in which c is set exactly when
the register is at least the operand as unsigned numbers at the width, z exactly when they are equal, n is the top bit
of the difference modulo 2^w, PC is past the instruction, and no register, other flag (v and d among them) or byte of
memory has changed. That d takes no part is the spec's own decision D36 (log 27). -/
def Obligations.Compares : Prop :=
  ∀ (i : Instr) (o : Operand) (w : Width) (reg : BitVec w.bits) (s : State), o.refusal s = none →
    (cmpForm i = some o ∧ w = s.mw ∧ reg = s.acc w) ∨ (cpxForm i = some o ∧ w = s.xw ∧ reg = s.xAt w) ∨
      (cpyForm i = some o ∧ w = s.xw ∧ reg = s.yAt w) →
    let m := (o.read w s).1
    ∃ t, exec i s = .next t ∧ t.flagC = decide (m.toNat ≤ reg.toNat) ∧ t.flagZ = decide (reg = m) ∧
      t.flagN = decide (2 ^ (w.bits - 1) ≤ (reg.toNat + 2 ^ w.bits - m.toNat) % 2 ^ w.bits) ∧
      FlagsBut [.c, .z, .n] s t ∧ t.pc = pcNext i s ∧ SameBut [.p] s t ∧ NothingStored s (o.read w s).2 t

/-- A conditional branch whose flag has the tested value, and BRA, go to PC + 2 plus the signed displacement modulo
2^16; otherwise PC becomes PC + 2 modulo 2^16. BRL goes to PC + 3 plus its displacement modulo 2^16. Nothing else of
the state changes. -/
def Obligations.Branches : Prop :=
  ∀ (s : State),
    (∀ (i : Instr) (f : Flag) (v : Bool) (k : Byte), branchForm i = some (f, v, k) → ∃ t, exec i s = .next t ∧
      t = { s with pc := t.pc } ∧
      (t.pc.toNat : Int) = (s.pc.toNat + 2 + if f.of s = v then k.toInt else 0) % 65536) ∧
    (∀ k : Byte, ∃ t, exec (.bra k) s = .next t ∧ t = { s with pc := t.pc } ∧
      (t.pc.toNat : Int) = (s.pc.toNat + 2 + k.toInt) % 65536) ∧
    (∀ k : Word, ∃ t, exec (.brl k) s = .next t ∧ t = { s with pc := t.pc } ∧
      (t.pc.toNat : Int) = (s.pc.toNat + 3 + k.toInt) % 65536)

/-- JMP addr changes PC alone, to the operand; JMP long changes PC and PBR, to the operand. JMP (addr), where it is
not refused, reads its target at 00:addr, the second byte within the page on V6502 with a low byte of 0xFF and within
bank 0 otherwise; JMP (addr,X) reads it in the program bank at addr + X, wrapping there; JMP [addr] reads PC and PBR
in bank 0. Outside IO_REGIONS nothing else of the state changes. The pointer locations are the spec's own decisions D3
and D17 (logs 12, 27). -/
def Obligations.Jumps : Prop :=
  ∀ (s : State) (a : Word),
    exec (.jmpAbs a) s = .next { s with pc := a } ∧
    (∀ k : Addr, ∃ t, exec (.jmpLong k) s = .next t ∧ t = { s with pc := t.pc, pbr := t.pbr } ∧
      t.pbr.toNat * 65536 + t.pc.toNat = k.toNat) ∧
    ((s.cfg.variant = .v6502 → a.toNat % 256 = 0xFF → s.cfg.jmpIndFF = .pageWrap) →
      let hi := fullAddr 0#8 (if s.cfg.variant = .v6502 ∧ a.toNat % 256 = 0xFF then high a ++ 0x00#8 else a + 1#16)
      ∃ t, exec (.jmpAbsInd a) s = .next t ∧ SameBut [] s t ∧ MemSame s t ∧
        (s.isIo (fullAddr 0#8 a) = false → s.isIo hi = false →
          t = { s with pc := s.byteAt hi ++ s.byteAt (fullAddr 0#8 a) })) ∧
    (∃ t, exec (.jmpAbsXInd a) s = .next t ∧ SameBut [] s t ∧ MemSame s t ∧
      (s.isIo (fullAddr s.pbr (a + s.x)) = false → s.isIo (fullAddr s.pbr (a + s.x + 1#16)) = false →
        t = { s with pc := s.byteAt (fullAddr s.pbr (a + s.x + 1#16)) ++ s.byteAt (fullAddr s.pbr (a + s.x)) })) ∧
    (∃ t, exec (.jmpAbsIndLong a) s = .next t ∧ SameBut [.pbr] s t ∧ MemSame s t ∧
      (s.isIo (fullAddr 0#8 a) = false → s.isIo (fullAddr 0#8 (a + 1#16)) = false →
        s.isIo (fullAddr 0#8 (a + 2#16)) = false →
        t = { s with
          pc := s.byteAt (fullAddr 0#8 (a + 1#16)) ++ s.byteAt (fullAddr 0#8 a)
          pbr := s.byteAt (fullAddr 0#8 (a + 2#16)) }))

/-- JSR addr pushes PC + 2, high byte first, and goes to addr in the same bank. JSL, where it is not refused, pushes
PBR and then PC + 3 and goes to its operand, bank and offset. JSR (addr,X), where it is not refused, pushes PC + 2 and
only then reads its target in the program bank at addr + X, so that it sees the pushed bytes. S goes down by the bytes
pushed; no other register, no flag and no other byte of memory changes. Stack order and the order of push and pointer
read are the spec's own decisions D4, D32 (logs 27, 36). A byte stored to IO_REGIONS goes to the I/O record and leaves
memory alone, and one stored where memory is not Writable is dropped (R63, D31; logs 15, 16, 25). -/
def Obligations.SubroutineCalls : Prop :=
  ∀ (s : State), Memory.wf s.mem →
    let ret := fun (n : Nat) => s.pc + BitVec.ofNat 16 n
    (∀ a, ∃ t, exec (.jsrAbs a) s = .next t ∧
      BytesStored (pushedAt s.e s.sp [high (ret 2), low (ret 2)]) s s t ∧ t.sp = stackDown s.e s.sp 2 ∧ t.pc = a ∧
      SameBut [.sp] s t) ∧
    (∀ k, ¬ WrapsPage1 (.jsl k) s → ∃ t, exec (.jsl k) s = .next t ∧
      BytesStored (pushedAt s.e s.sp [s.pbr, high (ret 3), low (ret 3)]) s s t ∧ t.sp = stackDown s.e s.sp 3 ∧
      t.pbr.toNat * 65536 + t.pc.toNat = k.toNat ∧ SameBut [.sp, .pbr] s t) ∧
    (∀ a, ¬ WrapsPage1 (.jsrAbsXInd a) s → ∃ t, exec (.jsrAbsXInd a) s = .next t ∧
      MemStored (pushedAt s.e s.sp [high (ret 2), low (ret 2)]) s t ∧ t.sp = stackDown s.e s.sp 2 ∧
      SameBut [.sp] s t ∧
      (s.isIo (fullAddr s.pbr (a + s.x)) = false → s.isIo (fullAddr s.pbr (a + s.x + 1#16)) = false →
        t.pc = t.byteAt (fullAddr s.pbr (a + s.x + 1#16)) ++ t.byteAt (fullAddr s.pbr (a + s.x)) ∧
        t.ioLog = s.ioLog ++ ioStores s (pushedAt s.e s.sp [high (ret 2), low (ret 2)]) ∧ t.draws = s.draws))

/-- RTS pulls two bytes and goes to their value plus 1 modulo 2^16 in the same bank; RTL, where it is not refused,
pulls two bytes and a bank and goes to the value plus 1 modulo 2^16 in that bank. S goes up by the bytes pulled; no
other register, no flag and no byte of memory changes. Where the stack bytes lie outside IO_REGIONS the values pulled
are those bytes, the low byte first. That the increment stays in the bank is the spec's own decision D14 (log 27). -/
def Obligations.SubroutineReturns : Prop :=
  ∀ (s : State),
    let at' := fun k => fullAddr 0#8 (stackUp s.e s.sp k)
    (∃ t, exec .rts s = .next t ∧ t.pc = (pull16 s).1 + 1#16 ∧ t.sp = stackUp s.e s.sp 2 ∧ SameBut [.sp] s t ∧
      NothingStored s (pull16 s).2 t ∧
      (s.isIo (at' 1) = false → s.isIo (at' 2) = false →
        t.pc.toNat = ((s.byteAt (at' 1)).toNat + 256 * (s.byteAt (at' 2)).toNat + 1) % 65536 ∧ t.ioLog = s.ioLog)) ∧
    (¬ WrapsPage1 .rtl s → ∃ t, exec .rtl s = .next t ∧ t.pc = (pull16 s).1 + 1#16 ∧
      t.pbr = (pull8 (pull16 s).2).1 ∧ t.sp = stackUp s.e s.sp 3 ∧ SameBut [.sp, .pbr] s t ∧
      NothingStored s (pull8 (pull16 s).2).2 t ∧
      (s.isIo (at' 1) = false → s.isIo (at' 2) = false → s.isIo (at' 3) = false →
        t.pc.toNat = ((s.byteAt (at' 1)).toNat + 256 * (s.byteAt (at' 2)).toNat + 1) % 65536 ∧
        t.pbr = s.byteAt (at' 3) ∧ t.ioLog = s.ioLog))

/-- Every form of LDA, LDX and LDY that neither its mode nor LDX_INDEX refuses answers a next state in which the
accumulator at the data width, or the index register with the operand of the index width zero-extended, is the
operand, n and z are those of the operand, PC is past the instruction, and no other register, flag or byte of memory
has changed. -/
def Obligations.Loads : Prop :=
  ∀ (i : Instr) (o : Operand) (s : State), o.refusal s = none →
    (ldaForm i = some o →
      let m := o.read s.mw s
      ∃ t, exec i s = .next t ∧ t.acc s.mw = m.1 ∧ FlagsNZ m.1 [.z, .n] s t ∧ t.pc = pcNext i s ∧
        SameBut (.p :: accFields s.mw) s t ∧ NothingStored s m.2 t) ∧
    (ldxForm s.cfg.ldxIndex i = some o →
      let m := o.read s.xw s
      ∃ t, exec i s = .next t ∧ t.x.toNat = m.1.toNat ∧ FlagsNZ m.1 [.z, .n] s t ∧ t.pc = pcNext i s ∧
        SameBut [.p, .x] s t ∧ NothingStored s m.2 t) ∧
    (ldyForm i = some o →
      let m := o.read s.xw s
      ∃ t, exec i s = .next t ∧ t.y.toNat = m.1.toNat ∧ FlagsNZ m.1 [.z, .n] s t ∧ t.pc = pcNext i s ∧
        SameBut [.p, .y] s t ∧ NothingStored s m.2 t)

/-- Every form of STA, STX, STY and STZ that its mode does not refuse answers a next state in which the bytes of the
operand location hold the accumulator or zero at the data width, or the index register at the index width, low byte
first; PC is past the instruction, and no register, no flag and no other byte of memory has changed. A byte stored to
IO_REGIONS goes to the I/O record and leaves memory alone, and one stored where memory is not Writable is dropped
(R63, D31; logs 15, 16, 25). The order of the two bytes is the spec's own decision D32. -/
def Obligations.Stores : Prop :=
  ∀ (i : Instr) (m : AddrMode) (w : Width) (v : BitVec w.bits) (s : State), Memory.wf s.mem → m.refusal s = none →
    (staForm i = some m ∧ w = s.mw ∧ v = s.acc w) ∨ (stxForm i = some m ∧ w = s.xw ∧ v.toNat = s.x.toNat % 2 ^ w.bits) ∨
      (styForm i = some m ∧ w = s.xw ∧ v.toNat = s.y.toNat % 2 ^ w.bits) ∨ (stzForm i = some m ∧ w = s.mw ∧ v = 0) →
    ∃ t, exec i s = .next t ∧
      BytesStored (storeAt s.cfg.variant w (m.resolve s).1 v) s (m.resolve s).2 t ∧ t.pc = pcNext i s ∧
      SameBut [] s t

/-- Each transfer into an index register answers a next state in which that register is the low bits of the 16-bit
source (C, S, X or Y) at the index width, zero-extended, n and z are those of the value transferred, PC is past the
instruction, and no other register, flag or byte of memory has changed. -/
def Obligations.IndexTransfers : Prop :=
  ∀ (i : Instr) (toX : Bool) (v : Word) (s : State), indexTransferForm s i = some (toX, v) →
    ∃ t, exec i s = .next t ∧ (if toX then t.x else t.y).toNat = v.toNat % 2 ^ s.xw.bits ∧
      t.flagN = v.getLsbD (s.xw.bits - 1) ∧ t.flagZ = decide (v.toNat % 2 ^ s.xw.bits = 0) ∧ FlagsBut [.z, .n] s t ∧
      t.pc = pcNext i s ∧ SameBut [.p, if toX then .x else .y] s t ∧ NothingStored s s t

/-- TXA and TYA put the low bits of the index register at the data width into the accumulator at that width, TDC and
TSC put D or S into all of C whatever m is, TCD puts C into D, each with n and z those of the value transferred; XBA
exchanges A and B with n and z from the new 8-bit A; PC is past the instruction, and no other register, flag or byte
of memory has changed. -/
def Obligations.OtherTransfers : Prop :=
  ∀ (s : State),
    (∀ (i : Instr) (w : Width) (v : Word), accTransferForm s i = some (w, v) →
      ∃ t, exec i s = .next t ∧ (t.acc w).toNat = v.toNat % 2 ^ w.bits ∧
        FlagsNZ (t.acc w) [.z, .n] s t ∧ t.pc = pcNext i s ∧ SameBut (.p :: accFields w) s t ∧ NothingStored s s t) ∧
    (∃ t, exec .xba s = .next t ∧ t.a = s.b ∧ t.b = s.a ∧ FlagsNZ t.a [.z, .n] s t ∧ t.pc = pcNext .xba s ∧
      SameBut [.p, .a, .b] s t ∧ NothingStored s s t) ∧
    (∃ t, exec .tcd s = .next t ∧ t.d.toNat = s.b.toNat * 256 + s.a.toNat ∧ FlagsNZ t.d [.z, .n] s t ∧
      t.pc = pcNext .tcd s ∧ SameBut [.p, .d] s t ∧ NothingStored s s t)

/-- TCS and TXS put C or X into S in native mode, and its low byte into page 1 when e is 1; PC is past the
instruction, and no flag, no other register and no byte of memory has changed. The case e = 1 is the spec's own
decision D28 (log 27). -/
def Obligations.StackPointerTransfers : Prop :=
  ∀ (i : Instr) (v : Word) (s : State), (i, v) ∈ [(Instr.tcs, s.c), (.txs, s.x)] →
    ∃ t, exec i s = .next t ∧ t.sp.toNat = (if s.e then 0x100 + v.toNat % 256 else v.toNat) ∧ t.pc = pcNext i s ∧
      SameBut [.sp] s t ∧ NothingStored s s t

/-- A pull of one byte leaves S one up, wrapping in page 1 when e is 1 and in bank 0 otherwise, and gives the byte at
that address in bank 0 where it lies outside IO_REGIONS; a pull of two bytes gives the byte at S + 1 plus 256 times
the byte at S + 2 and leaves S two up. Nothing else but the I/O record changes. Stack mechanics are the spec's own
decision D4 (log 27). -/
def Obligations.PulledValues : Prop :=
  ∀ (s : State),
    let up := fun k => if s.e then 0x100 + (s.sp.toNat + k) % 256 else (s.sp.toNat + k) % 65536
    let at' := fun k => fullAddr 0#8 (BitVec.ofNat 16 (up k))
    (pull8 s).2.sp.toNat = up 1 ∧ (pull16 s).2.sp.toNat = up 2 ∧
    SameBut [.sp] s (pull8 s).2 ∧ SameBut [.sp] s (pull16 s).2 ∧ MemSame s (pull8 s).2 ∧ MemSame s (pull16 s).2 ∧
    (s.isIo (at' 1) = false → (pull8 s).1 = s.byteAt (at' 1) ∧ (pull8 s).2.ioLog = s.ioLog) ∧
    (s.isIo (at' 1) = false → s.isIo (at' 2) = false →
      (pull16 s).1.toNat = (s.byteAt (at' 1)).toNat + 256 * (s.byteAt (at' 2)).toNat ∧ (pull16 s).2.ioLog = s.ioLog)

/-- PLA pulls the accumulator at the data width, PLX and PLY the index register at the index width zero-extended, and
PLB and PLD, where they are not refused, DBR and D; n and z are those of the value pulled, S goes up by its bytes, PC
is past the instruction, and no other register, flag or byte of memory has changed. Stack mechanics are the spec's own
decision D4 (log 27). -/
def Obligations.RegisterPulls : Prop :=
  ∀ (s : State),
    (∃ t, exec .pla s = .next t ∧ t.acc s.mw = (pullAt s.mw s).1 ∧ FlagsNZ (pullAt s.mw s).1 [.z, .n] s t ∧
      t.sp = stackUp s.e s.sp s.mw.bytes ∧ t.pc = pcNext .pla s ∧ SameBut (.p :: .sp :: accFields s.mw) s t ∧
      NothingStored s (pullAt s.mw s).2 t) ∧
    (∃ t, exec .plx s = .next t ∧ t.x.toNat = (pullAt s.xw s).1.toNat ∧ FlagsNZ (pullAt s.xw s).1 [.z, .n] s t ∧
      t.sp = stackUp s.e s.sp s.xw.bytes ∧ t.pc = pcNext .plx s ∧ SameBut [.p, .sp, .x] s t ∧
      NothingStored s (pullAt s.xw s).2 t) ∧
    (∃ t, exec .ply s = .next t ∧ t.y.toNat = (pullAt s.xw s).1.toNat ∧ FlagsNZ (pullAt s.xw s).1 [.z, .n] s t ∧
      t.sp = stackUp s.e s.sp s.xw.bytes ∧ t.pc = pcNext .ply s ∧ SameBut [.p, .sp, .y] s t ∧
      NothingStored s (pullAt s.xw s).2 t) ∧
    (¬ WrapsPage1 .plb s → ∃ t, exec .plb s = .next t ∧ t.dbr = (pull8 s).1 ∧ FlagsNZ t.dbr [.z, .n] s t ∧
      t.sp = stackUp s.e s.sp 1 ∧ t.pc = pcNext .plb s ∧ SameBut [.p, .sp, .dbr] s t ∧
      NothingStored s (pull8 s).2 t) ∧
    (¬ WrapsPage1 .pld s → ∃ t, exec .pld s = .next t ∧ t.d = (pull16 s).1 ∧ FlagsNZ t.d [.z, .n] s t ∧
      t.sp = stackUp s.e s.sp 2 ∧ t.pc = pcNext .pld s ∧ SameBut [.p, .sp, .d] s t ∧
      NothingStored s (pull16 s).2 t)

/-- PHA, PHX, PHY, PHP, PHB, PHK, and, where they are not refused, PHD, PEA, PER and PEI answer a next state in which
their bytes lie one below the other from S down in bank 0, high byte first, S is below them, PC is past the
instruction, and no other register, no flag and no other byte of memory has changed. PEI pushes the word at D + dp in
bank 0. Stack mechanics are the spec's own decision D4, the byte PHP pushes D30 (log 27). A byte stored to IO_REGIONS
goes to the I/O record and leaves memory alone, and one stored where memory is not Writable is dropped (R63, D31; logs
15, 16, 25). -/
def Obligations.Pushes : Prop :=
  ∀ (s : State), Memory.wf s.mem →
    (∀ (i : Instr) (bytes : List Byte), pushForm s i = some bytes → ¬ WrapsPage1 i s → ∃ t, exec i s = .next t ∧
      BytesStored (pushedAt s.e s.sp bytes) s s t ∧ t.sp = stackDown s.e s.sp bytes.length ∧ t.pc = pcNext i s ∧
      SameBut [.sp] s t) ∧
    (∀ off : Byte,
      ¬ (s.cfg.variant = .v65816 ∧ s.e = true ∧ low s.d = 0#8 ∧ off = 0xFF#8) → ¬ (s.e = true ∧ low s.sp = 0#8) →
      let r := read16 ⟨fullAddr 0#8 (s.d + off.zeroExtend 16), .bank⟩ s
      ∃ t, exec (.pei off) s = .next t ∧ BytesStored (pushedAt s.e s.sp [high r.1, low r.1]) s r.2 t ∧
        t.sp = stackDown s.e s.sp 2 ∧ t.pc = pcNext (.pei off) s ∧ SameBut [.sp] s t)

/-- PLP and RTI pull a status byte: in native mode P is that byte, with e = 1 its bits 5 and 4 are ignored and held at
1; the high bytes of X and Y are cleared exactly when x is then 1. RTI then pulls PC, used as it is, and in native
mode PBR. S goes up by the bytes pulled; no other register and no byte of memory changes. With e = 1 RTI pulls three
bytes, in native mode four. Bits 5 and 4 and the high bytes of X and Y are the spec's own decision D29 (log 30). -/
def Obligations.StatusPulls : Prop :=
  ∀ (s : State),
    let b := (pull8 s).1
    let restored := fun (t : State) =>
      (∀ j < 8, t.p.getLsbD j = (b.getLsbD j || (s.e && (j == 4 || j == 5)))) ∧
      t.x.toNat = (if t.flagX then s.x.toNat % 256 else s.x.toNat) ∧
      t.y.toNat = (if t.flagX then s.y.toNat % 256 else s.y.toNat)
    (∃ t, exec .plp s = .next t ∧ restored t ∧ t.sp = stackUp s.e s.sp 1 ∧ t.pc = pcNext .plp s ∧
      SameBut [.p, .x, .y, .sp] s t ∧ NothingStored s (pull8 s).2 t) ∧
    (∃ t, exec .rti s = .next t ∧ restored t ∧ t.sp = stackUp s.e s.sp (if s.e then 3 else 4) ∧
      SameBut [.p, .x, .y, .sp, .pbr] s t ∧ MemSame s t ∧
      t.pc = (pull16 (pull8 s).2).1 ∧
      t.pbr = (if s.e then s.pbr else (pull8 (pull16 (pull8 s).2).2).1) ∧
      t.ioLog = (if s.e then (pull16 (pull8 s).2).2 else (pull8 (pull16 (pull8 s).2).2).2).ioLog)

/-- BRK and COP, with any signature byte and whatever i is, answer a next state: PBR (in native mode), PC + 2 and the
status byte, with bits 5 and 4 set when e is 1, are pushed; i is set and d is cleared but on V6502; PBR is 0, the run
state Running, and PC the word at the vector of the instruction and the mode; no other register, flag or byte of
memory has changed. The pushed byte with e = 1 and the clearing of PBR are the spec's own decisions D30, D35 (logs 27,
30). A byte stored to IO_REGIONS goes to the I/O record and leaves memory alone, and one stored where memory is not
Writable is dropped (R63, D31; logs 15, 16, 25). -/
def Obligations.SoftwareInterrupts : Prop :=
  ∀ (s : State) (sig : Byte), Memory.wf s.mem →
    let status := if s.e then (s.p &&& 0xCF#8) ||| 0x30#8 else s.p
    (∃ t, exec (.brk sig) s = .next t ∧ t.nmiPending = s.nmiPending ∧
      Entered (s.pc + 2#16) status (if s.e then 0xFFFE#16 else 0xFFE6#16) s t) ∧
    (∃ t, exec (.cop sig) s = .next t ∧ t.nmiPending = s.nmiPending ∧
      Entered (s.pc + 2#16) status (if s.e then 0xFFF4#16 else 0xFFE4#16) s t)

/-- MVN and MVP answer a next state in which the byte at the source bank and X lies at the destination bank and Y, DBR
is the destination bank, X and Y have gone up (MVN) or down (MVP) by 1 modulo 2^w at the index width, C has gone down
by 1 modulo 2^16, and PC is past the instruction exactly when C was 0 and unchanged otherwise; no flag, no other
register and no other byte of memory has changed. The first operand byte is the source bank under MVN_OPERAND_ORDER =
SRC_FIRST and the destination bank otherwise. The step of one byte, DBR and the operand order are the spec's own
decisions D26, D5, D16 (logs 14, 27). A byte stored to IO_REGIONS goes to the I/O record and leaves memory alone, and
one stored where memory is not Writable is dropped (R63, D31; logs 15, 16, 25). -/
def Obligations.BlockMoveByte : Prop :=
  ∀ (i : Instr) (up : Bool) (k1 k2 : Byte) (s : State), Memory.wf s.mem → moveForm i = some (up, k1, k2) →
    let src := if s.cfg.mvnOrder = .srcFirst then k1 else k2
    let dst := if s.cfg.mvnOrder = .srcFirst then k2 else k1
    let v := readByte (fullAddr src s.x) s
    let d := if up then 1 else 2 ^ s.xw.bits - 1
    ∃ t, exec i s = .next t ∧ BytesStored [(fullAddr dst s.y, v.1)] s v.2 t ∧ t.dbr = dst ∧
      t.x.toNat = (s.x.toNat + d) % 2 ^ s.xw.bits ∧ t.y.toNat = (s.y.toNat + d) % 2 ^ s.xw.bits ∧
      t.c.toNat = (s.c.toNat + 65535) % 65536 ∧ t.pc = (if s.c.toNat = 0 then pcNext i s else s.pc) ∧
      SameBut [.a, .b, .x, .y, .dbr] s t

/-- XCE answers a next state in which e is the old c and c the old e; when e is then 1, m and x are 1, the high bytes
of X and Y are 0 and S is in page 1 with its low byte kept; when it left emulation mode, m and x are 1; otherwise m
and x are as they were; X, Y and S are as they were when e is then 0; PC is past the instruction and no other
register, flag or byte of memory has changed, B among them. That a native to native XCE leaves m and x alone is the
spec's own decision D37 (log 27). -/
def Obligations.ExchangeCarryEmulation : Prop :=
  ∀ (s : State), ∃ t, exec .xce s = .next t ∧ t.e = s.flagC ∧ t.flagC = s.e ∧
    t.flagM = (s.flagM || s.flagC || s.e) ∧ t.flagX = (s.flagX || s.flagC || s.e) ∧ FlagsBut [.c, .m, .x] s t ∧
    t.x.toNat = (if s.flagC then s.x.toNat % 256 else s.x.toNat) ∧
    t.y.toNat = (if s.flagC then s.y.toNat % 256 else s.y.toNat) ∧
    t.sp.toNat = (if s.flagC then 0x100 + s.sp.toNat % 256 else s.sp.toNat) ∧ t.pc = pcNext .xce s ∧
    SameBut [.p, .e, .x, .y, .sp] s t ∧ NothingStored s s t

/-- NOP moves PC past its one byte and WDM past its two, whatever the second is; WAI and STP move PC past their one
byte and put the run state to Waiting and Stopped; nothing else of the state changes. What ends a wait or a stop is
not spoken of here. -/
def Obligations.NoOperationsAndHalts : Prop :=
  ∀ (s : State) (k : Byte),
    exec .nop s = .next { s with pc := s.pc + 1#16 } ∧ exec (.wdm k) s = .next { s with pc := s.pc + 2#16 } ∧
    exec .wai s = .next { s with pc := s.pc + 1#16, run := .waiting } ∧
    exec .stp s = .next { s with pc := s.pc + 1#16, run := .stopped }

/-- From every state that satisfies the invariants and whose next four stack bytes are plain memory, an entry of any
kind with any return offset, followed at once by RTI, gives a next state with PC the return offset, P, S, X, Y and
every other register and flag as they were, PBR as it was in native mode and 0 when e is 1, and the run state Running.
The pushed bytes are the spec's own decisions D30, D35; U23 is log 31. -/
def Obligations.ReturnUndoesInterrupt : Prop :=
  ∀ (kind : InterruptKind) (ret : Word) (s : State), s.Inv → PlainStack 4 s →
    ∃ t, exec .rti (interrupt kind ret s) = .next t ∧ t.pc = ret ∧ t.pbr = (if s.e then 0#8 else s.pbr) ∧
      t.run = .running ∧ SameBut [.pbr, .run, .p] s t ∧ FlagsBut [] s t

/-- From every state that satisfies the invariants and whose next three stack bytes are plain memory: JSR followed at
once by RTS gives a state with PC three past the JSR and every register and flag as it was; JSL followed at once by
RTL, where with e = 1 the low byte of S is at least 3, gives one with PC four past the JSL and every register and
flag, the program bank among them, as it was. Stack mechanics are the spec's own decisions D4, D14, D33 (logs 10, 27).
-/
def Obligations.ReturnUndoesCall : Prop :=
  ∀ (s : State), s.Inv → PlainStack 3 s →
    (∀ a, ∃ u t, exec (.jsrAbs a) s = .next u ∧ exec .rts u = .next t ∧ t.pc = s.pc + 3#16 ∧ SameBut [] s t) ∧
    (∀ k, (s.e = true → 3 ≤ (low s.sp).toNat) → ∃ u t, exec (.jsl k) s = .next u ∧ exec .rtl u = .next t ∧
      t.pc = s.pc + 4#16 ∧ SameBut [] s t)

/-- From every state that satisfies the invariants and whose next two stack bytes are plain memory, PHA, PHX, PHY,
PHP, PHB or PHD followed by the matching pull gives back the register and S, even if the register was overwritten in
between; for PHB with e = 1 the low byte of S must be at least 1 and for PHD at least 2. Stack mechanics are the
spec's own decision D4 (log 27). -/
def Obligations.PullUndoesPush : Prop :=
  ∀ (s : State) (junk : Word), s.Inv → PlainStack 2 s →
    (∃ u t, exec .pha s = .next u ∧ exec .pla (u.setAcc s.mw (atWidth s.mw junk)) = .next t ∧ t.c = s.c ∧ t.sp = s.sp) ∧
    (∃ u t, exec .phx s = .next u ∧ exec .plx (u.setX junk) = .next t ∧ t.x = s.x ∧ t.sp = s.sp) ∧
    (∃ u t, exec .phy s = .next u ∧ exec .ply (u.setY junk) = .next t ∧ t.y = s.y ∧ t.sp = s.sp) ∧
    (∃ u t, exec .php s = .next u ∧ exec .plp u = .next t ∧ t.p = s.p ∧ t.x = s.x ∧ t.y = s.y ∧ t.sp = s.sp) ∧
    ((s.e = true → 1 ≤ (low s.sp).toNat) → ∃ u t, exec .phb s = .next u ∧
      exec .plb { u with dbr := low junk } = .next t ∧ t.dbr = s.dbr ∧ t.sp = s.sp) ∧
    ((s.e = true → 2 ≤ (low s.sp).toNat) → ∃ u t, exec .phd s = .next u ∧ exec .pld { u with d := junk } = .next t ∧
      t.d = s.d ∧ t.sp = s.sp)

/-- From every state with a 16-bit index width whose memory is in canonical form, if the C + 1 source bytes lie
outside IO_REGIONS, the C + 1 destination bytes are plain memory, and no destination address is a source address, then
MVN or MVP performed C + 1 times, each time with a next state, ends with C = 0xFFFF, X and Y one past the blocks in
the direction of the move, DBR the destination bank, PC past the instruction, every destination byte equal to its
source byte, every other byte of memory as it was, and no other register and no flag changed. The step of one byte,
DBR and the operand order are the spec's own decisions D26, D5, D16 (logs 14, 27). -/
def Obligations.BlockMoveCompletes : Prop :=
  ∀ (i : Instr) (up : Bool) (k1 k2 : Byte) (s : State), moveForm i = some (up, k1, k2) → Memory.wf s.mem → s.xw = .w16 →
    let src := fun k => fullAddr (if s.cfg.mvnOrder = .srcFirst then k1 else k2) (stepped up s.x k)
    let dst := fun k => fullAddr (if s.cfg.mvnOrder = .srcFirst then k2 else k1) (stepped up s.y k)
    (∀ k ≤ s.c.toNat, s.isIo (src k) = false ∧ Plain s (dst k)) →
    (∀ j ≤ s.c.toNat, ∀ k ≤ s.c.toNat, src j ≠ dst k) →
    ∃ t, performed i (s.c.toNat + 1) s t ∧ t.c = 0xFFFF#16 ∧ t.x = stepped up s.x (s.c.toNat + 1) ∧
      t.y = stepped up s.y (s.c.toNat + 1) ∧ t.dbr = (if s.cfg.mvnOrder = .srcFirst then k2 else k1) ∧
      t.pc = pcNext i s ∧ (∀ k ≤ s.c.toNat, t.byteAt (dst k) = s.byteAt (src k)) ∧
      (∀ a, (∀ k ≤ s.c.toNat, a ≠ dst k) → t.byteAt a = s.byteAt a) ∧ SameBut [.a, .b, .x, .y, .dbr] s t
end

