-- ==== Sys2Proof/Laws/State.lean ====
section
/-! SUPPORT. What each named update of the state leaves alone and what it sets: one lemma for each field and update, so that no
proof unfolds a record update. -/

namespace Sys2Proof.Machine

/-! `setFlagC`. -/

@[simp] theorem State.setFlagC_cfg (s : State) (v : Bool) : (s.setFlagC v).cfg = s.cfg := rfl

@[simp] theorem State.setFlagC_a (s : State) (v : Bool) : (s.setFlagC v).a = s.a := rfl

@[simp] theorem State.setFlagC_b (s : State) (v : Bool) : (s.setFlagC v).b = s.b := rfl

@[simp] theorem State.setFlagC_x (s : State) (v : Bool) : (s.setFlagC v).x = s.x := rfl

@[simp] theorem State.setFlagC_y (s : State) (v : Bool) : (s.setFlagC v).y = s.y := rfl

@[simp] theorem State.setFlagC_sp (s : State) (v : Bool) : (s.setFlagC v).sp = s.sp := rfl

@[simp] theorem State.setFlagC_d (s : State) (v : Bool) : (s.setFlagC v).d = s.d := rfl

@[simp] theorem State.setFlagC_dbr (s : State) (v : Bool) : (s.setFlagC v).dbr = s.dbr := rfl

@[simp] theorem State.setFlagC_pbr (s : State) (v : Bool) : (s.setFlagC v).pbr = s.pbr := rfl

@[simp] theorem State.setFlagC_pc (s : State) (v : Bool) : (s.setFlagC v).pc = s.pc := rfl

@[simp] theorem State.setFlagC_e (s : State) (v : Bool) : (s.setFlagC v).e = s.e := rfl

@[simp] theorem State.setFlagC_run (s : State) (v : Bool) : (s.setFlagC v).run = s.run := rfl

@[simp] theorem State.setFlagC_irqLine (s : State) (v : Bool) : (s.setFlagC v).irqLine = s.irqLine := rfl

@[simp] theorem State.setFlagC_nmiPending (s : State) (v : Bool) : (s.setFlagC v).nmiPending = s.nmiPending := rfl

@[simp] theorem State.setFlagC_resetLine (s : State) (v : Bool) : (s.setFlagC v).resetLine = s.resetLine := rfl

@[simp] theorem State.setFlagC_abortPending (s : State) (v : Bool) : (s.setFlagC v).abortPending = s.abortPending := rfl

@[simp] theorem State.setFlagC_mem (s : State) (v : Bool) : (s.setFlagC v).mem = s.mem := rfl

@[simp] theorem State.setFlagC_ioLog (s : State) (v : Bool) : (s.setFlagC v).ioLog = s.ioLog := rfl

@[simp] theorem State.setFlagC_draws (s : State) (v : Bool) : (s.setFlagC v).draws = s.draws := rfl

@[simp] theorem State.setFlagC_byteAt (s : State) (v : Bool) (a : Addr) : (s.setFlagC v).byteAt a = s.byteAt a := rfl

@[simp] theorem State.setFlagC_isIo (s : State) (v : Bool) (a : Addr) : (s.setFlagC v).isIo a = s.isIo a := rfl

@[simp] theorem State.setFlagC_writable (s : State) (v : Bool) (a : Addr) : (s.setFlagC v).writable a = s.writable a := rfl

/-! `setFlagZ`. -/

@[simp] theorem State.setFlagZ_cfg (s : State) (v : Bool) : (s.setFlagZ v).cfg = s.cfg := rfl

@[simp] theorem State.setFlagZ_a (s : State) (v : Bool) : (s.setFlagZ v).a = s.a := rfl

@[simp] theorem State.setFlagZ_b (s : State) (v : Bool) : (s.setFlagZ v).b = s.b := rfl

@[simp] theorem State.setFlagZ_x (s : State) (v : Bool) : (s.setFlagZ v).x = s.x := rfl

@[simp] theorem State.setFlagZ_y (s : State) (v : Bool) : (s.setFlagZ v).y = s.y := rfl

@[simp] theorem State.setFlagZ_sp (s : State) (v : Bool) : (s.setFlagZ v).sp = s.sp := rfl

@[simp] theorem State.setFlagZ_d (s : State) (v : Bool) : (s.setFlagZ v).d = s.d := rfl

@[simp] theorem State.setFlagZ_dbr (s : State) (v : Bool) : (s.setFlagZ v).dbr = s.dbr := rfl

@[simp] theorem State.setFlagZ_pbr (s : State) (v : Bool) : (s.setFlagZ v).pbr = s.pbr := rfl

@[simp] theorem State.setFlagZ_pc (s : State) (v : Bool) : (s.setFlagZ v).pc = s.pc := rfl

@[simp] theorem State.setFlagZ_e (s : State) (v : Bool) : (s.setFlagZ v).e = s.e := rfl

@[simp] theorem State.setFlagZ_run (s : State) (v : Bool) : (s.setFlagZ v).run = s.run := rfl

@[simp] theorem State.setFlagZ_irqLine (s : State) (v : Bool) : (s.setFlagZ v).irqLine = s.irqLine := rfl

@[simp] theorem State.setFlagZ_nmiPending (s : State) (v : Bool) : (s.setFlagZ v).nmiPending = s.nmiPending := rfl

@[simp] theorem State.setFlagZ_resetLine (s : State) (v : Bool) : (s.setFlagZ v).resetLine = s.resetLine := rfl

@[simp] theorem State.setFlagZ_abortPending (s : State) (v : Bool) : (s.setFlagZ v).abortPending = s.abortPending := rfl

@[simp] theorem State.setFlagZ_mem (s : State) (v : Bool) : (s.setFlagZ v).mem = s.mem := rfl

@[simp] theorem State.setFlagZ_ioLog (s : State) (v : Bool) : (s.setFlagZ v).ioLog = s.ioLog := rfl

@[simp] theorem State.setFlagZ_draws (s : State) (v : Bool) : (s.setFlagZ v).draws = s.draws := rfl

@[simp] theorem State.setFlagZ_byteAt (s : State) (v : Bool) (a : Addr) : (s.setFlagZ v).byteAt a = s.byteAt a := rfl

@[simp] theorem State.setFlagZ_isIo (s : State) (v : Bool) (a : Addr) : (s.setFlagZ v).isIo a = s.isIo a := rfl

@[simp] theorem State.setFlagZ_writable (s : State) (v : Bool) (a : Addr) : (s.setFlagZ v).writable a = s.writable a := rfl

/-! `setFlagI`. -/

@[simp] theorem State.setFlagI_cfg (s : State) (v : Bool) : (s.setFlagI v).cfg = s.cfg := rfl

@[simp] theorem State.setFlagI_a (s : State) (v : Bool) : (s.setFlagI v).a = s.a := rfl

@[simp] theorem State.setFlagI_b (s : State) (v : Bool) : (s.setFlagI v).b = s.b := rfl

@[simp] theorem State.setFlagI_x (s : State) (v : Bool) : (s.setFlagI v).x = s.x := rfl

@[simp] theorem State.setFlagI_y (s : State) (v : Bool) : (s.setFlagI v).y = s.y := rfl

@[simp] theorem State.setFlagI_sp (s : State) (v : Bool) : (s.setFlagI v).sp = s.sp := rfl

@[simp] theorem State.setFlagI_d (s : State) (v : Bool) : (s.setFlagI v).d = s.d := rfl

@[simp] theorem State.setFlagI_dbr (s : State) (v : Bool) : (s.setFlagI v).dbr = s.dbr := rfl

@[simp] theorem State.setFlagI_pbr (s : State) (v : Bool) : (s.setFlagI v).pbr = s.pbr := rfl

@[simp] theorem State.setFlagI_pc (s : State) (v : Bool) : (s.setFlagI v).pc = s.pc := rfl

@[simp] theorem State.setFlagI_e (s : State) (v : Bool) : (s.setFlagI v).e = s.e := rfl

@[simp] theorem State.setFlagI_run (s : State) (v : Bool) : (s.setFlagI v).run = s.run := rfl

@[simp] theorem State.setFlagI_irqLine (s : State) (v : Bool) : (s.setFlagI v).irqLine = s.irqLine := rfl

@[simp] theorem State.setFlagI_nmiPending (s : State) (v : Bool) : (s.setFlagI v).nmiPending = s.nmiPending := rfl

@[simp] theorem State.setFlagI_resetLine (s : State) (v : Bool) : (s.setFlagI v).resetLine = s.resetLine := rfl

@[simp] theorem State.setFlagI_abortPending (s : State) (v : Bool) : (s.setFlagI v).abortPending = s.abortPending := rfl

@[simp] theorem State.setFlagI_mem (s : State) (v : Bool) : (s.setFlagI v).mem = s.mem := rfl

@[simp] theorem State.setFlagI_ioLog (s : State) (v : Bool) : (s.setFlagI v).ioLog = s.ioLog := rfl

@[simp] theorem State.setFlagI_draws (s : State) (v : Bool) : (s.setFlagI v).draws = s.draws := rfl

@[simp] theorem State.setFlagI_byteAt (s : State) (v : Bool) (a : Addr) : (s.setFlagI v).byteAt a = s.byteAt a := rfl

@[simp] theorem State.setFlagI_isIo (s : State) (v : Bool) (a : Addr) : (s.setFlagI v).isIo a = s.isIo a := rfl

@[simp] theorem State.setFlagI_writable (s : State) (v : Bool) (a : Addr) : (s.setFlagI v).writable a = s.writable a := rfl

/-! `setFlagD`. -/

@[simp] theorem State.setFlagD_cfg (s : State) (v : Bool) : (s.setFlagD v).cfg = s.cfg := rfl

@[simp] theorem State.setFlagD_a (s : State) (v : Bool) : (s.setFlagD v).a = s.a := rfl

@[simp] theorem State.setFlagD_b (s : State) (v : Bool) : (s.setFlagD v).b = s.b := rfl

@[simp] theorem State.setFlagD_x (s : State) (v : Bool) : (s.setFlagD v).x = s.x := rfl

@[simp] theorem State.setFlagD_y (s : State) (v : Bool) : (s.setFlagD v).y = s.y := rfl

@[simp] theorem State.setFlagD_sp (s : State) (v : Bool) : (s.setFlagD v).sp = s.sp := rfl

@[simp] theorem State.setFlagD_d (s : State) (v : Bool) : (s.setFlagD v).d = s.d := rfl

@[simp] theorem State.setFlagD_dbr (s : State) (v : Bool) : (s.setFlagD v).dbr = s.dbr := rfl

@[simp] theorem State.setFlagD_pbr (s : State) (v : Bool) : (s.setFlagD v).pbr = s.pbr := rfl

@[simp] theorem State.setFlagD_pc (s : State) (v : Bool) : (s.setFlagD v).pc = s.pc := rfl

@[simp] theorem State.setFlagD_e (s : State) (v : Bool) : (s.setFlagD v).e = s.e := rfl

@[simp] theorem State.setFlagD_run (s : State) (v : Bool) : (s.setFlagD v).run = s.run := rfl

@[simp] theorem State.setFlagD_irqLine (s : State) (v : Bool) : (s.setFlagD v).irqLine = s.irqLine := rfl

@[simp] theorem State.setFlagD_nmiPending (s : State) (v : Bool) : (s.setFlagD v).nmiPending = s.nmiPending := rfl

@[simp] theorem State.setFlagD_resetLine (s : State) (v : Bool) : (s.setFlagD v).resetLine = s.resetLine := rfl

@[simp] theorem State.setFlagD_abortPending (s : State) (v : Bool) : (s.setFlagD v).abortPending = s.abortPending := rfl

@[simp] theorem State.setFlagD_mem (s : State) (v : Bool) : (s.setFlagD v).mem = s.mem := rfl

@[simp] theorem State.setFlagD_ioLog (s : State) (v : Bool) : (s.setFlagD v).ioLog = s.ioLog := rfl

@[simp] theorem State.setFlagD_draws (s : State) (v : Bool) : (s.setFlagD v).draws = s.draws := rfl

@[simp] theorem State.setFlagD_byteAt (s : State) (v : Bool) (a : Addr) : (s.setFlagD v).byteAt a = s.byteAt a := rfl

@[simp] theorem State.setFlagD_isIo (s : State) (v : Bool) (a : Addr) : (s.setFlagD v).isIo a = s.isIo a := rfl

@[simp] theorem State.setFlagD_writable (s : State) (v : Bool) (a : Addr) : (s.setFlagD v).writable a = s.writable a := rfl

/-! `setFlagX`. -/

@[simp] theorem State.setFlagX_cfg (s : State) (v : Bool) : (s.setFlagX v).cfg = s.cfg := rfl

@[simp] theorem State.setFlagX_a (s : State) (v : Bool) : (s.setFlagX v).a = s.a := rfl

@[simp] theorem State.setFlagX_b (s : State) (v : Bool) : (s.setFlagX v).b = s.b := rfl

@[simp] theorem State.setFlagX_x (s : State) (v : Bool) : (s.setFlagX v).x = s.x := rfl

@[simp] theorem State.setFlagX_y (s : State) (v : Bool) : (s.setFlagX v).y = s.y := rfl

@[simp] theorem State.setFlagX_sp (s : State) (v : Bool) : (s.setFlagX v).sp = s.sp := rfl

@[simp] theorem State.setFlagX_d (s : State) (v : Bool) : (s.setFlagX v).d = s.d := rfl

@[simp] theorem State.setFlagX_dbr (s : State) (v : Bool) : (s.setFlagX v).dbr = s.dbr := rfl

@[simp] theorem State.setFlagX_pbr (s : State) (v : Bool) : (s.setFlagX v).pbr = s.pbr := rfl

@[simp] theorem State.setFlagX_pc (s : State) (v : Bool) : (s.setFlagX v).pc = s.pc := rfl

@[simp] theorem State.setFlagX_e (s : State) (v : Bool) : (s.setFlagX v).e = s.e := rfl

@[simp] theorem State.setFlagX_run (s : State) (v : Bool) : (s.setFlagX v).run = s.run := rfl

@[simp] theorem State.setFlagX_irqLine (s : State) (v : Bool) : (s.setFlagX v).irqLine = s.irqLine := rfl

@[simp] theorem State.setFlagX_nmiPending (s : State) (v : Bool) : (s.setFlagX v).nmiPending = s.nmiPending := rfl

@[simp] theorem State.setFlagX_resetLine (s : State) (v : Bool) : (s.setFlagX v).resetLine = s.resetLine := rfl

@[simp] theorem State.setFlagX_abortPending (s : State) (v : Bool) : (s.setFlagX v).abortPending = s.abortPending := rfl

@[simp] theorem State.setFlagX_mem (s : State) (v : Bool) : (s.setFlagX v).mem = s.mem := rfl

@[simp] theorem State.setFlagX_ioLog (s : State) (v : Bool) : (s.setFlagX v).ioLog = s.ioLog := rfl

@[simp] theorem State.setFlagX_draws (s : State) (v : Bool) : (s.setFlagX v).draws = s.draws := rfl

@[simp] theorem State.setFlagX_byteAt (s : State) (v : Bool) (a : Addr) : (s.setFlagX v).byteAt a = s.byteAt a := rfl

@[simp] theorem State.setFlagX_isIo (s : State) (v : Bool) (a : Addr) : (s.setFlagX v).isIo a = s.isIo a := rfl

@[simp] theorem State.setFlagX_writable (s : State) (v : Bool) (a : Addr) : (s.setFlagX v).writable a = s.writable a := rfl

/-! `setFlagM`. -/

@[simp] theorem State.setFlagM_cfg (s : State) (v : Bool) : (s.setFlagM v).cfg = s.cfg := rfl

@[simp] theorem State.setFlagM_a (s : State) (v : Bool) : (s.setFlagM v).a = s.a := rfl

@[simp] theorem State.setFlagM_b (s : State) (v : Bool) : (s.setFlagM v).b = s.b := rfl

@[simp] theorem State.setFlagM_x (s : State) (v : Bool) : (s.setFlagM v).x = s.x := rfl

@[simp] theorem State.setFlagM_y (s : State) (v : Bool) : (s.setFlagM v).y = s.y := rfl

@[simp] theorem State.setFlagM_sp (s : State) (v : Bool) : (s.setFlagM v).sp = s.sp := rfl

@[simp] theorem State.setFlagM_d (s : State) (v : Bool) : (s.setFlagM v).d = s.d := rfl

@[simp] theorem State.setFlagM_dbr (s : State) (v : Bool) : (s.setFlagM v).dbr = s.dbr := rfl

@[simp] theorem State.setFlagM_pbr (s : State) (v : Bool) : (s.setFlagM v).pbr = s.pbr := rfl

@[simp] theorem State.setFlagM_pc (s : State) (v : Bool) : (s.setFlagM v).pc = s.pc := rfl

@[simp] theorem State.setFlagM_e (s : State) (v : Bool) : (s.setFlagM v).e = s.e := rfl

@[simp] theorem State.setFlagM_run (s : State) (v : Bool) : (s.setFlagM v).run = s.run := rfl

@[simp] theorem State.setFlagM_irqLine (s : State) (v : Bool) : (s.setFlagM v).irqLine = s.irqLine := rfl

@[simp] theorem State.setFlagM_nmiPending (s : State) (v : Bool) : (s.setFlagM v).nmiPending = s.nmiPending := rfl

@[simp] theorem State.setFlagM_resetLine (s : State) (v : Bool) : (s.setFlagM v).resetLine = s.resetLine := rfl

@[simp] theorem State.setFlagM_abortPending (s : State) (v : Bool) : (s.setFlagM v).abortPending = s.abortPending := rfl

@[simp] theorem State.setFlagM_mem (s : State) (v : Bool) : (s.setFlagM v).mem = s.mem := rfl

@[simp] theorem State.setFlagM_ioLog (s : State) (v : Bool) : (s.setFlagM v).ioLog = s.ioLog := rfl

@[simp] theorem State.setFlagM_draws (s : State) (v : Bool) : (s.setFlagM v).draws = s.draws := rfl

@[simp] theorem State.setFlagM_byteAt (s : State) (v : Bool) (a : Addr) : (s.setFlagM v).byteAt a = s.byteAt a := rfl

@[simp] theorem State.setFlagM_isIo (s : State) (v : Bool) (a : Addr) : (s.setFlagM v).isIo a = s.isIo a := rfl

@[simp] theorem State.setFlagM_writable (s : State) (v : Bool) (a : Addr) : (s.setFlagM v).writable a = s.writable a := rfl

/-! `setFlagV`. -/

@[simp] theorem State.setFlagV_cfg (s : State) (v : Bool) : (s.setFlagV v).cfg = s.cfg := rfl

@[simp] theorem State.setFlagV_a (s : State) (v : Bool) : (s.setFlagV v).a = s.a := rfl

@[simp] theorem State.setFlagV_b (s : State) (v : Bool) : (s.setFlagV v).b = s.b := rfl

@[simp] theorem State.setFlagV_x (s : State) (v : Bool) : (s.setFlagV v).x = s.x := rfl

@[simp] theorem State.setFlagV_y (s : State) (v : Bool) : (s.setFlagV v).y = s.y := rfl

@[simp] theorem State.setFlagV_sp (s : State) (v : Bool) : (s.setFlagV v).sp = s.sp := rfl

@[simp] theorem State.setFlagV_d (s : State) (v : Bool) : (s.setFlagV v).d = s.d := rfl

@[simp] theorem State.setFlagV_dbr (s : State) (v : Bool) : (s.setFlagV v).dbr = s.dbr := rfl

@[simp] theorem State.setFlagV_pbr (s : State) (v : Bool) : (s.setFlagV v).pbr = s.pbr := rfl

@[simp] theorem State.setFlagV_pc (s : State) (v : Bool) : (s.setFlagV v).pc = s.pc := rfl

@[simp] theorem State.setFlagV_e (s : State) (v : Bool) : (s.setFlagV v).e = s.e := rfl

@[simp] theorem State.setFlagV_run (s : State) (v : Bool) : (s.setFlagV v).run = s.run := rfl

@[simp] theorem State.setFlagV_irqLine (s : State) (v : Bool) : (s.setFlagV v).irqLine = s.irqLine := rfl

@[simp] theorem State.setFlagV_nmiPending (s : State) (v : Bool) : (s.setFlagV v).nmiPending = s.nmiPending := rfl

@[simp] theorem State.setFlagV_resetLine (s : State) (v : Bool) : (s.setFlagV v).resetLine = s.resetLine := rfl

@[simp] theorem State.setFlagV_abortPending (s : State) (v : Bool) : (s.setFlagV v).abortPending = s.abortPending := rfl

@[simp] theorem State.setFlagV_mem (s : State) (v : Bool) : (s.setFlagV v).mem = s.mem := rfl

@[simp] theorem State.setFlagV_ioLog (s : State) (v : Bool) : (s.setFlagV v).ioLog = s.ioLog := rfl

@[simp] theorem State.setFlagV_draws (s : State) (v : Bool) : (s.setFlagV v).draws = s.draws := rfl

@[simp] theorem State.setFlagV_byteAt (s : State) (v : Bool) (a : Addr) : (s.setFlagV v).byteAt a = s.byteAt a := rfl

@[simp] theorem State.setFlagV_isIo (s : State) (v : Bool) (a : Addr) : (s.setFlagV v).isIo a = s.isIo a := rfl

@[simp] theorem State.setFlagV_writable (s : State) (v : Bool) (a : Addr) : (s.setFlagV v).writable a = s.writable a := rfl

/-! `setFlagN`. -/

@[simp] theorem State.setFlagN_cfg (s : State) (v : Bool) : (s.setFlagN v).cfg = s.cfg := rfl

@[simp] theorem State.setFlagN_a (s : State) (v : Bool) : (s.setFlagN v).a = s.a := rfl

@[simp] theorem State.setFlagN_b (s : State) (v : Bool) : (s.setFlagN v).b = s.b := rfl

@[simp] theorem State.setFlagN_x (s : State) (v : Bool) : (s.setFlagN v).x = s.x := rfl

@[simp] theorem State.setFlagN_y (s : State) (v : Bool) : (s.setFlagN v).y = s.y := rfl

@[simp] theorem State.setFlagN_sp (s : State) (v : Bool) : (s.setFlagN v).sp = s.sp := rfl

@[simp] theorem State.setFlagN_d (s : State) (v : Bool) : (s.setFlagN v).d = s.d := rfl

@[simp] theorem State.setFlagN_dbr (s : State) (v : Bool) : (s.setFlagN v).dbr = s.dbr := rfl

@[simp] theorem State.setFlagN_pbr (s : State) (v : Bool) : (s.setFlagN v).pbr = s.pbr := rfl

@[simp] theorem State.setFlagN_pc (s : State) (v : Bool) : (s.setFlagN v).pc = s.pc := rfl

@[simp] theorem State.setFlagN_e (s : State) (v : Bool) : (s.setFlagN v).e = s.e := rfl

@[simp] theorem State.setFlagN_run (s : State) (v : Bool) : (s.setFlagN v).run = s.run := rfl

@[simp] theorem State.setFlagN_irqLine (s : State) (v : Bool) : (s.setFlagN v).irqLine = s.irqLine := rfl

@[simp] theorem State.setFlagN_nmiPending (s : State) (v : Bool) : (s.setFlagN v).nmiPending = s.nmiPending := rfl

@[simp] theorem State.setFlagN_resetLine (s : State) (v : Bool) : (s.setFlagN v).resetLine = s.resetLine := rfl

@[simp] theorem State.setFlagN_abortPending (s : State) (v : Bool) : (s.setFlagN v).abortPending = s.abortPending := rfl

@[simp] theorem State.setFlagN_mem (s : State) (v : Bool) : (s.setFlagN v).mem = s.mem := rfl

@[simp] theorem State.setFlagN_ioLog (s : State) (v : Bool) : (s.setFlagN v).ioLog = s.ioLog := rfl

@[simp] theorem State.setFlagN_draws (s : State) (v : Bool) : (s.setFlagN v).draws = s.draws := rfl

@[simp] theorem State.setFlagN_byteAt (s : State) (v : Bool) (a : Addr) : (s.setFlagN v).byteAt a = s.byteAt a := rfl

@[simp] theorem State.setFlagN_isIo (s : State) (v : Bool) (a : Addr) : (s.setFlagN v).isIo a = s.isIo a := rfl

@[simp] theorem State.setFlagN_writable (s : State) (v : Bool) (a : Addr) : (s.setFlagN v).writable a = s.writable a := rfl

/-! `setNZ`. -/

@[simp] theorem State.setNZ_cfg (s : State) {n : Nat} (v : BitVec n) : (s.setNZ v).cfg = s.cfg := rfl

@[simp] theorem State.setNZ_a (s : State) {n : Nat} (v : BitVec n) : (s.setNZ v).a = s.a := rfl

@[simp] theorem State.setNZ_b (s : State) {n : Nat} (v : BitVec n) : (s.setNZ v).b = s.b := rfl

@[simp] theorem State.setNZ_x (s : State) {n : Nat} (v : BitVec n) : (s.setNZ v).x = s.x := rfl

@[simp] theorem State.setNZ_y (s : State) {n : Nat} (v : BitVec n) : (s.setNZ v).y = s.y := rfl

@[simp] theorem State.setNZ_sp (s : State) {n : Nat} (v : BitVec n) : (s.setNZ v).sp = s.sp := rfl

@[simp] theorem State.setNZ_d (s : State) {n : Nat} (v : BitVec n) : (s.setNZ v).d = s.d := rfl

@[simp] theorem State.setNZ_dbr (s : State) {n : Nat} (v : BitVec n) : (s.setNZ v).dbr = s.dbr := rfl

@[simp] theorem State.setNZ_pbr (s : State) {n : Nat} (v : BitVec n) : (s.setNZ v).pbr = s.pbr := rfl

@[simp] theorem State.setNZ_pc (s : State) {n : Nat} (v : BitVec n) : (s.setNZ v).pc = s.pc := rfl

@[simp] theorem State.setNZ_e (s : State) {n : Nat} (v : BitVec n) : (s.setNZ v).e = s.e := rfl

@[simp] theorem State.setNZ_run (s : State) {n : Nat} (v : BitVec n) : (s.setNZ v).run = s.run := rfl

@[simp] theorem State.setNZ_irqLine (s : State) {n : Nat} (v : BitVec n) : (s.setNZ v).irqLine = s.irqLine := rfl

@[simp] theorem State.setNZ_nmiPending (s : State) {n : Nat} (v : BitVec n) : (s.setNZ v).nmiPending = s.nmiPending := rfl

@[simp] theorem State.setNZ_resetLine (s : State) {n : Nat} (v : BitVec n) : (s.setNZ v).resetLine = s.resetLine := rfl

@[simp] theorem State.setNZ_abortPending (s : State) {n : Nat} (v : BitVec n) : (s.setNZ v).abortPending = s.abortPending := rfl

@[simp] theorem State.setNZ_mem (s : State) {n : Nat} (v : BitVec n) : (s.setNZ v).mem = s.mem := rfl

@[simp] theorem State.setNZ_ioLog (s : State) {n : Nat} (v : BitVec n) : (s.setNZ v).ioLog = s.ioLog := rfl

@[simp] theorem State.setNZ_draws (s : State) {n : Nat} (v : BitVec n) : (s.setNZ v).draws = s.draws := rfl

@[simp] theorem State.setNZ_byteAt (s : State) {n : Nat} (v : BitVec n) (a : Addr) : (s.setNZ v).byteAt a = s.byteAt a := rfl

@[simp] theorem State.setNZ_isIo (s : State) {n : Nat} (v : BitVec n) (a : Addr) : (s.setNZ v).isIo a = s.isIo a := rfl

@[simp] theorem State.setNZ_writable (s : State) {n : Nat} (v : BitVec n) (a : Addr) : (s.setNZ v).writable a = s.writable a := rfl

/-! `setCompare`. -/

@[simp] theorem State.setCompare_cfg (s : State) {n : Nat} (r m : BitVec n) : (s.setCompare r m).cfg = s.cfg := rfl

@[simp] theorem State.setCompare_a (s : State) {n : Nat} (r m : BitVec n) : (s.setCompare r m).a = s.a := rfl

@[simp] theorem State.setCompare_b (s : State) {n : Nat} (r m : BitVec n) : (s.setCompare r m).b = s.b := rfl

@[simp] theorem State.setCompare_x (s : State) {n : Nat} (r m : BitVec n) : (s.setCompare r m).x = s.x := rfl

@[simp] theorem State.setCompare_y (s : State) {n : Nat} (r m : BitVec n) : (s.setCompare r m).y = s.y := rfl

@[simp] theorem State.setCompare_sp (s : State) {n : Nat} (r m : BitVec n) : (s.setCompare r m).sp = s.sp := rfl

@[simp] theorem State.setCompare_d (s : State) {n : Nat} (r m : BitVec n) : (s.setCompare r m).d = s.d := rfl

@[simp] theorem State.setCompare_dbr (s : State) {n : Nat} (r m : BitVec n) : (s.setCompare r m).dbr = s.dbr := rfl

@[simp] theorem State.setCompare_pbr (s : State) {n : Nat} (r m : BitVec n) : (s.setCompare r m).pbr = s.pbr := rfl

@[simp] theorem State.setCompare_pc (s : State) {n : Nat} (r m : BitVec n) : (s.setCompare r m).pc = s.pc := rfl

@[simp] theorem State.setCompare_e (s : State) {n : Nat} (r m : BitVec n) : (s.setCompare r m).e = s.e := rfl

@[simp] theorem State.setCompare_run (s : State) {n : Nat} (r m : BitVec n) : (s.setCompare r m).run = s.run := rfl

@[simp] theorem State.setCompare_irqLine (s : State) {n : Nat} (r m : BitVec n) : (s.setCompare r m).irqLine = s.irqLine := rfl

@[simp] theorem State.setCompare_nmiPending (s : State) {n : Nat} (r m : BitVec n) : (s.setCompare r m).nmiPending = s.nmiPending := rfl

@[simp] theorem State.setCompare_resetLine (s : State) {n : Nat} (r m : BitVec n) : (s.setCompare r m).resetLine = s.resetLine := rfl

@[simp] theorem State.setCompare_abortPending (s : State) {n : Nat} (r m : BitVec n) : (s.setCompare r m).abortPending = s.abortPending := rfl

@[simp] theorem State.setCompare_mem (s : State) {n : Nat} (r m : BitVec n) : (s.setCompare r m).mem = s.mem := rfl

@[simp] theorem State.setCompare_ioLog (s : State) {n : Nat} (r m : BitVec n) : (s.setCompare r m).ioLog = s.ioLog := rfl

@[simp] theorem State.setCompare_draws (s : State) {n : Nat} (r m : BitVec n) : (s.setCompare r m).draws = s.draws := rfl

@[simp] theorem State.setCompare_byteAt (s : State) {n : Nat} (r m : BitVec n) (a : Addr) : (s.setCompare r m).byteAt a = s.byteAt a := rfl

@[simp] theorem State.setCompare_isIo (s : State) {n : Nat} (r m : BitVec n) (a : Addr) : (s.setCompare r m).isIo a = s.isIo a := rfl

@[simp] theorem State.setCompare_writable (s : State) {n : Nat} (r m : BitVec n) (a : Addr) : (s.setCompare r m).writable a = s.writable a := rfl

/-! `setC`. -/

@[simp] theorem State.setC_cfg (s : State) (v : Word) : (s.setC v).cfg = s.cfg := rfl

@[simp] theorem State.setC_x (s : State) (v : Word) : (s.setC v).x = s.x := rfl

@[simp] theorem State.setC_y (s : State) (v : Word) : (s.setC v).y = s.y := rfl

@[simp] theorem State.setC_sp (s : State) (v : Word) : (s.setC v).sp = s.sp := rfl

@[simp] theorem State.setC_d (s : State) (v : Word) : (s.setC v).d = s.d := rfl

@[simp] theorem State.setC_dbr (s : State) (v : Word) : (s.setC v).dbr = s.dbr := rfl

@[simp] theorem State.setC_pbr (s : State) (v : Word) : (s.setC v).pbr = s.pbr := rfl

@[simp] theorem State.setC_pc (s : State) (v : Word) : (s.setC v).pc = s.pc := rfl

@[simp] theorem State.setC_p (s : State) (v : Word) : (s.setC v).p = s.p := rfl

@[simp] theorem State.setC_e (s : State) (v : Word) : (s.setC v).e = s.e := rfl

@[simp] theorem State.setC_run (s : State) (v : Word) : (s.setC v).run = s.run := rfl

@[simp] theorem State.setC_irqLine (s : State) (v : Word) : (s.setC v).irqLine = s.irqLine := rfl

@[simp] theorem State.setC_nmiPending (s : State) (v : Word) : (s.setC v).nmiPending = s.nmiPending := rfl

@[simp] theorem State.setC_resetLine (s : State) (v : Word) : (s.setC v).resetLine = s.resetLine := rfl

@[simp] theorem State.setC_abortPending (s : State) (v : Word) : (s.setC v).abortPending = s.abortPending := rfl

@[simp] theorem State.setC_mem (s : State) (v : Word) : (s.setC v).mem = s.mem := rfl

@[simp] theorem State.setC_ioLog (s : State) (v : Word) : (s.setC v).ioLog = s.ioLog := rfl

@[simp] theorem State.setC_draws (s : State) (v : Word) : (s.setC v).draws = s.draws := rfl

@[simp] theorem State.setC_a (s : State) (v : Word) : (s.setC v).a = low v := rfl

@[simp] theorem State.setC_b (s : State) (v : Word) : (s.setC v).b = high v := rfl

@[simp] theorem State.setC_byteAt (s : State) (v : Word) (a : Addr) : (s.setC v).byteAt a = s.byteAt a := rfl

@[simp] theorem State.setC_isIo (s : State) (v : Word) (a : Addr) : (s.setC v).isIo a = s.isIo a := rfl

@[simp] theorem State.setC_writable (s : State) (v : Word) (a : Addr) : (s.setC v).writable a = s.writable a := rfl

/-! `setAcc`. -/

@[simp] theorem State.setAcc_cfg (s : State) (w : Width) (v : BitVec w.bits) : (s.setAcc w v).cfg = s.cfg := by cases w <;> rfl

@[simp] theorem State.setAcc_x (s : State) (w : Width) (v : BitVec w.bits) : (s.setAcc w v).x = s.x := by cases w <;> rfl

@[simp] theorem State.setAcc_y (s : State) (w : Width) (v : BitVec w.bits) : (s.setAcc w v).y = s.y := by cases w <;> rfl

@[simp] theorem State.setAcc_sp (s : State) (w : Width) (v : BitVec w.bits) : (s.setAcc w v).sp = s.sp := by cases w <;> rfl

@[simp] theorem State.setAcc_d (s : State) (w : Width) (v : BitVec w.bits) : (s.setAcc w v).d = s.d := by cases w <;> rfl

@[simp] theorem State.setAcc_dbr (s : State) (w : Width) (v : BitVec w.bits) : (s.setAcc w v).dbr = s.dbr := by cases w <;> rfl

@[simp] theorem State.setAcc_pbr (s : State) (w : Width) (v : BitVec w.bits) : (s.setAcc w v).pbr = s.pbr := by cases w <;> rfl

@[simp] theorem State.setAcc_pc (s : State) (w : Width) (v : BitVec w.bits) : (s.setAcc w v).pc = s.pc := by cases w <;> rfl

@[simp] theorem State.setAcc_p (s : State) (w : Width) (v : BitVec w.bits) : (s.setAcc w v).p = s.p := by cases w <;> rfl

@[simp] theorem State.setAcc_e (s : State) (w : Width) (v : BitVec w.bits) : (s.setAcc w v).e = s.e := by cases w <;> rfl

@[simp] theorem State.setAcc_run (s : State) (w : Width) (v : BitVec w.bits) : (s.setAcc w v).run = s.run := by cases w <;> rfl

@[simp] theorem State.setAcc_irqLine (s : State) (w : Width) (v : BitVec w.bits) : (s.setAcc w v).irqLine = s.irqLine := by cases w <;> rfl

@[simp] theorem State.setAcc_nmiPending (s : State) (w : Width) (v : BitVec w.bits) : (s.setAcc w v).nmiPending = s.nmiPending := by cases w <;> rfl

@[simp] theorem State.setAcc_resetLine (s : State) (w : Width) (v : BitVec w.bits) : (s.setAcc w v).resetLine = s.resetLine := by cases w <;> rfl

@[simp] theorem State.setAcc_abortPending (s : State) (w : Width) (v : BitVec w.bits) : (s.setAcc w v).abortPending = s.abortPending := by cases w <;> rfl

@[simp] theorem State.setAcc_mem (s : State) (w : Width) (v : BitVec w.bits) : (s.setAcc w v).mem = s.mem := by cases w <;> rfl

@[simp] theorem State.setAcc_ioLog (s : State) (w : Width) (v : BitVec w.bits) : (s.setAcc w v).ioLog = s.ioLog := by cases w <;> rfl

@[simp] theorem State.setAcc_draws (s : State) (w : Width) (v : BitVec w.bits) : (s.setAcc w v).draws = s.draws := by cases w <;> rfl

@[simp] theorem State.setAcc_byteAt (s : State) (w : Width) (v : BitVec w.bits) (a : Addr) : (s.setAcc w v).byteAt a = s.byteAt a := by cases w <;> rfl

@[simp] theorem State.setAcc_isIo (s : State) (w : Width) (v : BitVec w.bits) (a : Addr) : (s.setAcc w v).isIo a = s.isIo a := by cases w <;> rfl

@[simp] theorem State.setAcc_writable (s : State) (w : Width) (v : BitVec w.bits) (a : Addr) : (s.setAcc w v).writable a = s.writable a := by cases w <;> rfl

/-! `setX`. -/

@[simp] theorem State.setX_cfg (s : State) {n : Nat} (v : BitVec n) : (s.setX v).cfg = s.cfg := rfl

@[simp] theorem State.setX_a (s : State) {n : Nat} (v : BitVec n) : (s.setX v).a = s.a := rfl

@[simp] theorem State.setX_b (s : State) {n : Nat} (v : BitVec n) : (s.setX v).b = s.b := rfl

@[simp] theorem State.setX_y (s : State) {n : Nat} (v : BitVec n) : (s.setX v).y = s.y := rfl

@[simp] theorem State.setX_sp (s : State) {n : Nat} (v : BitVec n) : (s.setX v).sp = s.sp := rfl

@[simp] theorem State.setX_d (s : State) {n : Nat} (v : BitVec n) : (s.setX v).d = s.d := rfl

@[simp] theorem State.setX_dbr (s : State) {n : Nat} (v : BitVec n) : (s.setX v).dbr = s.dbr := rfl

@[simp] theorem State.setX_pbr (s : State) {n : Nat} (v : BitVec n) : (s.setX v).pbr = s.pbr := rfl

@[simp] theorem State.setX_pc (s : State) {n : Nat} (v : BitVec n) : (s.setX v).pc = s.pc := rfl

@[simp] theorem State.setX_p (s : State) {n : Nat} (v : BitVec n) : (s.setX v).p = s.p := rfl

@[simp] theorem State.setX_e (s : State) {n : Nat} (v : BitVec n) : (s.setX v).e = s.e := rfl

@[simp] theorem State.setX_run (s : State) {n : Nat} (v : BitVec n) : (s.setX v).run = s.run := rfl

@[simp] theorem State.setX_irqLine (s : State) {n : Nat} (v : BitVec n) : (s.setX v).irqLine = s.irqLine := rfl

@[simp] theorem State.setX_nmiPending (s : State) {n : Nat} (v : BitVec n) : (s.setX v).nmiPending = s.nmiPending := rfl

@[simp] theorem State.setX_resetLine (s : State) {n : Nat} (v : BitVec n) : (s.setX v).resetLine = s.resetLine := rfl

@[simp] theorem State.setX_abortPending (s : State) {n : Nat} (v : BitVec n) : (s.setX v).abortPending = s.abortPending := rfl

@[simp] theorem State.setX_mem (s : State) {n : Nat} (v : BitVec n) : (s.setX v).mem = s.mem := rfl

@[simp] theorem State.setX_ioLog (s : State) {n : Nat} (v : BitVec n) : (s.setX v).ioLog = s.ioLog := rfl

@[simp] theorem State.setX_draws (s : State) {n : Nat} (v : BitVec n) : (s.setX v).draws = s.draws := rfl

@[simp] theorem State.setX_x (s : State) {n : Nat} (v : BitVec n) : (s.setX v).x = v.zeroExtend 16 := rfl

@[simp] theorem State.setX_byteAt (s : State) {n : Nat} (v : BitVec n) (a : Addr) : (s.setX v).byteAt a = s.byteAt a := rfl

@[simp] theorem State.setX_isIo (s : State) {n : Nat} (v : BitVec n) (a : Addr) : (s.setX v).isIo a = s.isIo a := rfl

@[simp] theorem State.setX_writable (s : State) {n : Nat} (v : BitVec n) (a : Addr) : (s.setX v).writable a = s.writable a := rfl

/-! `setY`. -/

@[simp] theorem State.setY_cfg (s : State) {n : Nat} (v : BitVec n) : (s.setY v).cfg = s.cfg := rfl

@[simp] theorem State.setY_a (s : State) {n : Nat} (v : BitVec n) : (s.setY v).a = s.a := rfl

@[simp] theorem State.setY_b (s : State) {n : Nat} (v : BitVec n) : (s.setY v).b = s.b := rfl

@[simp] theorem State.setY_x (s : State) {n : Nat} (v : BitVec n) : (s.setY v).x = s.x := rfl

@[simp] theorem State.setY_sp (s : State) {n : Nat} (v : BitVec n) : (s.setY v).sp = s.sp := rfl

@[simp] theorem State.setY_d (s : State) {n : Nat} (v : BitVec n) : (s.setY v).d = s.d := rfl

@[simp] theorem State.setY_dbr (s : State) {n : Nat} (v : BitVec n) : (s.setY v).dbr = s.dbr := rfl

@[simp] theorem State.setY_pbr (s : State) {n : Nat} (v : BitVec n) : (s.setY v).pbr = s.pbr := rfl

@[simp] theorem State.setY_pc (s : State) {n : Nat} (v : BitVec n) : (s.setY v).pc = s.pc := rfl

@[simp] theorem State.setY_p (s : State) {n : Nat} (v : BitVec n) : (s.setY v).p = s.p := rfl

@[simp] theorem State.setY_e (s : State) {n : Nat} (v : BitVec n) : (s.setY v).e = s.e := rfl

@[simp] theorem State.setY_run (s : State) {n : Nat} (v : BitVec n) : (s.setY v).run = s.run := rfl

@[simp] theorem State.setY_irqLine (s : State) {n : Nat} (v : BitVec n) : (s.setY v).irqLine = s.irqLine := rfl

@[simp] theorem State.setY_nmiPending (s : State) {n : Nat} (v : BitVec n) : (s.setY v).nmiPending = s.nmiPending := rfl

@[simp] theorem State.setY_resetLine (s : State) {n : Nat} (v : BitVec n) : (s.setY v).resetLine = s.resetLine := rfl

@[simp] theorem State.setY_abortPending (s : State) {n : Nat} (v : BitVec n) : (s.setY v).abortPending = s.abortPending := rfl

@[simp] theorem State.setY_mem (s : State) {n : Nat} (v : BitVec n) : (s.setY v).mem = s.mem := rfl

@[simp] theorem State.setY_ioLog (s : State) {n : Nat} (v : BitVec n) : (s.setY v).ioLog = s.ioLog := rfl

@[simp] theorem State.setY_draws (s : State) {n : Nat} (v : BitVec n) : (s.setY v).draws = s.draws := rfl

@[simp] theorem State.setY_y (s : State) {n : Nat} (v : BitVec n) : (s.setY v).y = v.zeroExtend 16 := rfl

@[simp] theorem State.setY_byteAt (s : State) {n : Nat} (v : BitVec n) (a : Addr) : (s.setY v).byteAt a = s.byteAt a := rfl

@[simp] theorem State.setY_isIo (s : State) {n : Nat} (v : BitVec n) (a : Addr) : (s.setY v).isIo a = s.isIo a := rfl

@[simp] theorem State.setY_writable (s : State) {n : Nat} (v : BitVec n) (a : Addr) : (s.setY v).writable a = s.writable a := rfl

/-! `clearIndexHigh`. -/

@[simp] theorem State.clearIndexHigh_cfg (s : State) : (s.clearIndexHigh).cfg = s.cfg := rfl

@[simp] theorem State.clearIndexHigh_a (s : State) : (s.clearIndexHigh).a = s.a := rfl

@[simp] theorem State.clearIndexHigh_b (s : State) : (s.clearIndexHigh).b = s.b := rfl

@[simp] theorem State.clearIndexHigh_sp (s : State) : (s.clearIndexHigh).sp = s.sp := rfl

@[simp] theorem State.clearIndexHigh_d (s : State) : (s.clearIndexHigh).d = s.d := rfl

@[simp] theorem State.clearIndexHigh_dbr (s : State) : (s.clearIndexHigh).dbr = s.dbr := rfl

@[simp] theorem State.clearIndexHigh_pbr (s : State) : (s.clearIndexHigh).pbr = s.pbr := rfl

@[simp] theorem State.clearIndexHigh_pc (s : State) : (s.clearIndexHigh).pc = s.pc := rfl

@[simp] theorem State.clearIndexHigh_p (s : State) : (s.clearIndexHigh).p = s.p := rfl

@[simp] theorem State.clearIndexHigh_e (s : State) : (s.clearIndexHigh).e = s.e := rfl

@[simp] theorem State.clearIndexHigh_run (s : State) : (s.clearIndexHigh).run = s.run := rfl

@[simp] theorem State.clearIndexHigh_irqLine (s : State) : (s.clearIndexHigh).irqLine = s.irqLine := rfl

@[simp] theorem State.clearIndexHigh_nmiPending (s : State) : (s.clearIndexHigh).nmiPending = s.nmiPending := rfl

@[simp] theorem State.clearIndexHigh_resetLine (s : State) : (s.clearIndexHigh).resetLine = s.resetLine := rfl

@[simp] theorem State.clearIndexHigh_abortPending (s : State) : (s.clearIndexHigh).abortPending = s.abortPending := rfl

@[simp] theorem State.clearIndexHigh_mem (s : State) : (s.clearIndexHigh).mem = s.mem := rfl

@[simp] theorem State.clearIndexHigh_ioLog (s : State) : (s.clearIndexHigh).ioLog = s.ioLog := rfl

@[simp] theorem State.clearIndexHigh_draws (s : State) : (s.clearIndexHigh).draws = s.draws := rfl

@[simp] theorem State.clearIndexHigh_x (s : State) : (s.clearIndexHigh).x = (low s.x).zeroExtend 16 := rfl

@[simp] theorem State.clearIndexHigh_y (s : State) : (s.clearIndexHigh).y = (low s.y).zeroExtend 16 := rfl

@[simp] theorem State.clearIndexHigh_byteAt (s : State) (a : Addr) : (s.clearIndexHigh).byteAt a = s.byteAt a := rfl

@[simp] theorem State.clearIndexHigh_isIo (s : State) (a : Addr) : (s.clearIndexHigh).isIo a = s.isIo a := rfl

@[simp] theorem State.clearIndexHigh_writable (s : State) (a : Addr) : (s.clearIndexHigh).writable a = s.writable a := rfl

/-! `setS`. -/

@[simp] theorem State.setS_cfg (s : State) (v : Word) : (s.setS v).cfg = s.cfg := rfl

@[simp] theorem State.setS_a (s : State) (v : Word) : (s.setS v).a = s.a := rfl

@[simp] theorem State.setS_b (s : State) (v : Word) : (s.setS v).b = s.b := rfl

@[simp] theorem State.setS_x (s : State) (v : Word) : (s.setS v).x = s.x := rfl

@[simp] theorem State.setS_y (s : State) (v : Word) : (s.setS v).y = s.y := rfl

@[simp] theorem State.setS_d (s : State) (v : Word) : (s.setS v).d = s.d := rfl

@[simp] theorem State.setS_dbr (s : State) (v : Word) : (s.setS v).dbr = s.dbr := rfl

@[simp] theorem State.setS_pbr (s : State) (v : Word) : (s.setS v).pbr = s.pbr := rfl

@[simp] theorem State.setS_pc (s : State) (v : Word) : (s.setS v).pc = s.pc := rfl

@[simp] theorem State.setS_p (s : State) (v : Word) : (s.setS v).p = s.p := rfl

@[simp] theorem State.setS_e (s : State) (v : Word) : (s.setS v).e = s.e := rfl

@[simp] theorem State.setS_run (s : State) (v : Word) : (s.setS v).run = s.run := rfl

@[simp] theorem State.setS_irqLine (s : State) (v : Word) : (s.setS v).irqLine = s.irqLine := rfl

@[simp] theorem State.setS_nmiPending (s : State) (v : Word) : (s.setS v).nmiPending = s.nmiPending := rfl

@[simp] theorem State.setS_resetLine (s : State) (v : Word) : (s.setS v).resetLine = s.resetLine := rfl

@[simp] theorem State.setS_abortPending (s : State) (v : Word) : (s.setS v).abortPending = s.abortPending := rfl

@[simp] theorem State.setS_mem (s : State) (v : Word) : (s.setS v).mem = s.mem := rfl

@[simp] theorem State.setS_ioLog (s : State) (v : Word) : (s.setS v).ioLog = s.ioLog := rfl

@[simp] theorem State.setS_draws (s : State) (v : Word) : (s.setS v).draws = s.draws := rfl

@[simp] theorem State.setS_sp (s : State) (v : Word) : (s.setS v).sp = if s.e then 0x01#8 ++ low v else v := rfl

@[simp] theorem State.setS_byteAt (s : State) (v : Word) (a : Addr) : (s.setS v).byteAt a = s.byteAt a := rfl

@[simp] theorem State.setS_isIo (s : State) (v : Word) (a : Addr) : (s.setS v).isIo a = s.isIo a := rfl

@[simp] theorem State.setS_writable (s : State) (v : Word) (a : Addr) : (s.setS v).writable a = s.writable a := rfl

/-! `advance`. -/

@[simp] theorem State.advance_cfg (s : State) (n : Nat) : (s.advance n).cfg = s.cfg := rfl

@[simp] theorem State.advance_a (s : State) (n : Nat) : (s.advance n).a = s.a := rfl

@[simp] theorem State.advance_b (s : State) (n : Nat) : (s.advance n).b = s.b := rfl

@[simp] theorem State.advance_x (s : State) (n : Nat) : (s.advance n).x = s.x := rfl

@[simp] theorem State.advance_y (s : State) (n : Nat) : (s.advance n).y = s.y := rfl

@[simp] theorem State.advance_sp (s : State) (n : Nat) : (s.advance n).sp = s.sp := rfl

@[simp] theorem State.advance_d (s : State) (n : Nat) : (s.advance n).d = s.d := rfl

@[simp] theorem State.advance_dbr (s : State) (n : Nat) : (s.advance n).dbr = s.dbr := rfl

@[simp] theorem State.advance_pbr (s : State) (n : Nat) : (s.advance n).pbr = s.pbr := rfl

@[simp] theorem State.advance_p (s : State) (n : Nat) : (s.advance n).p = s.p := rfl

@[simp] theorem State.advance_e (s : State) (n : Nat) : (s.advance n).e = s.e := rfl

@[simp] theorem State.advance_run (s : State) (n : Nat) : (s.advance n).run = s.run := rfl

@[simp] theorem State.advance_irqLine (s : State) (n : Nat) : (s.advance n).irqLine = s.irqLine := rfl

@[simp] theorem State.advance_nmiPending (s : State) (n : Nat) : (s.advance n).nmiPending = s.nmiPending := rfl

@[simp] theorem State.advance_resetLine (s : State) (n : Nat) : (s.advance n).resetLine = s.resetLine := rfl

@[simp] theorem State.advance_abortPending (s : State) (n : Nat) : (s.advance n).abortPending = s.abortPending := rfl

@[simp] theorem State.advance_mem (s : State) (n : Nat) : (s.advance n).mem = s.mem := rfl

@[simp] theorem State.advance_ioLog (s : State) (n : Nat) : (s.advance n).ioLog = s.ioLog := rfl

@[simp] theorem State.advance_draws (s : State) (n : Nat) : (s.advance n).draws = s.draws := rfl

@[simp] theorem State.advance_pc (s : State) (n : Nat) : (s.advance n).pc = s.pc + BitVec.ofNat 16 n := rfl

@[simp] theorem State.advance_byteAt (s : State) (n : Nat) (a : Addr) : (s.advance n).byteAt a = s.byteAt a := rfl

@[simp] theorem State.advance_isIo (s : State) (n : Nat) (a : Addr) : (s.advance n).isIo a = s.isIo a := rfl

@[simp] theorem State.advance_writable (s : State) (n : Nat) (a : Addr) : (s.advance n).writable a = s.writable a := rfl

/-! `jump`. -/

@[simp] theorem State.jump_cfg (s : State) (v : Word) : (s.jump v).cfg = s.cfg := rfl

@[simp] theorem State.jump_a (s : State) (v : Word) : (s.jump v).a = s.a := rfl

@[simp] theorem State.jump_b (s : State) (v : Word) : (s.jump v).b = s.b := rfl

@[simp] theorem State.jump_x (s : State) (v : Word) : (s.jump v).x = s.x := rfl

@[simp] theorem State.jump_y (s : State) (v : Word) : (s.jump v).y = s.y := rfl

@[simp] theorem State.jump_sp (s : State) (v : Word) : (s.jump v).sp = s.sp := rfl

@[simp] theorem State.jump_d (s : State) (v : Word) : (s.jump v).d = s.d := rfl

@[simp] theorem State.jump_dbr (s : State) (v : Word) : (s.jump v).dbr = s.dbr := rfl

@[simp] theorem State.jump_pbr (s : State) (v : Word) : (s.jump v).pbr = s.pbr := rfl

@[simp] theorem State.jump_p (s : State) (v : Word) : (s.jump v).p = s.p := rfl

@[simp] theorem State.jump_e (s : State) (v : Word) : (s.jump v).e = s.e := rfl

@[simp] theorem State.jump_run (s : State) (v : Word) : (s.jump v).run = s.run := rfl

@[simp] theorem State.jump_irqLine (s : State) (v : Word) : (s.jump v).irqLine = s.irqLine := rfl

@[simp] theorem State.jump_nmiPending (s : State) (v : Word) : (s.jump v).nmiPending = s.nmiPending := rfl

@[simp] theorem State.jump_resetLine (s : State) (v : Word) : (s.jump v).resetLine = s.resetLine := rfl

@[simp] theorem State.jump_abortPending (s : State) (v : Word) : (s.jump v).abortPending = s.abortPending := rfl

@[simp] theorem State.jump_mem (s : State) (v : Word) : (s.jump v).mem = s.mem := rfl

@[simp] theorem State.jump_ioLog (s : State) (v : Word) : (s.jump v).ioLog = s.ioLog := rfl

@[simp] theorem State.jump_draws (s : State) (v : Word) : (s.jump v).draws = s.draws := rfl

@[simp] theorem State.jump_pc (s : State) (v : Word) : (s.jump v).pc = v := rfl

@[simp] theorem State.jump_byteAt (s : State) (v : Word) (a : Addr) : (s.jump v).byteAt a = s.byteAt a := rfl

@[simp] theorem State.jump_isIo (s : State) (v : Word) (a : Addr) : (s.jump v).isIo a = s.isIo a := rfl

@[simp] theorem State.jump_writable (s : State) (v : Word) (a : Addr) : (s.jump v).writable a = s.writable a := rfl

/-! `jumpLong`. -/

@[simp] theorem State.jumpLong_cfg (s : State) (k : Byte) (v : Word) : (s.jumpLong k v).cfg = s.cfg := rfl

@[simp] theorem State.jumpLong_a (s : State) (k : Byte) (v : Word) : (s.jumpLong k v).a = s.a := rfl

@[simp] theorem State.jumpLong_b (s : State) (k : Byte) (v : Word) : (s.jumpLong k v).b = s.b := rfl

@[simp] theorem State.jumpLong_x (s : State) (k : Byte) (v : Word) : (s.jumpLong k v).x = s.x := rfl

@[simp] theorem State.jumpLong_y (s : State) (k : Byte) (v : Word) : (s.jumpLong k v).y = s.y := rfl

@[simp] theorem State.jumpLong_sp (s : State) (k : Byte) (v : Word) : (s.jumpLong k v).sp = s.sp := rfl

@[simp] theorem State.jumpLong_d (s : State) (k : Byte) (v : Word) : (s.jumpLong k v).d = s.d := rfl

@[simp] theorem State.jumpLong_dbr (s : State) (k : Byte) (v : Word) : (s.jumpLong k v).dbr = s.dbr := rfl

@[simp] theorem State.jumpLong_p (s : State) (k : Byte) (v : Word) : (s.jumpLong k v).p = s.p := rfl

@[simp] theorem State.jumpLong_e (s : State) (k : Byte) (v : Word) : (s.jumpLong k v).e = s.e := rfl

@[simp] theorem State.jumpLong_run (s : State) (k : Byte) (v : Word) : (s.jumpLong k v).run = s.run := rfl

@[simp] theorem State.jumpLong_irqLine (s : State) (k : Byte) (v : Word) : (s.jumpLong k v).irqLine = s.irqLine := rfl

@[simp] theorem State.jumpLong_nmiPending (s : State) (k : Byte) (v : Word) : (s.jumpLong k v).nmiPending = s.nmiPending := rfl

@[simp] theorem State.jumpLong_resetLine (s : State) (k : Byte) (v : Word) : (s.jumpLong k v).resetLine = s.resetLine := rfl

@[simp] theorem State.jumpLong_abortPending (s : State) (k : Byte) (v : Word) : (s.jumpLong k v).abortPending = s.abortPending := rfl

@[simp] theorem State.jumpLong_mem (s : State) (k : Byte) (v : Word) : (s.jumpLong k v).mem = s.mem := rfl

@[simp] theorem State.jumpLong_ioLog (s : State) (k : Byte) (v : Word) : (s.jumpLong k v).ioLog = s.ioLog := rfl

@[simp] theorem State.jumpLong_draws (s : State) (k : Byte) (v : Word) : (s.jumpLong k v).draws = s.draws := rfl

@[simp] theorem State.jumpLong_pbr (s : State) (k : Byte) (v : Word) : (s.jumpLong k v).pbr = k := rfl

@[simp] theorem State.jumpLong_pc (s : State) (k : Byte) (v : Word) : (s.jumpLong k v).pc = v := rfl

@[simp] theorem State.jumpLong_byteAt (s : State) (k : Byte) (v : Word) (a : Addr) : (s.jumpLong k v).byteAt a = s.byteAt a := rfl

@[simp] theorem State.jumpLong_isIo (s : State) (k : Byte) (v : Word) (a : Addr) : (s.jumpLong k v).isIo a = s.isIo a := rfl

@[simp] theorem State.jumpLong_writable (s : State) (k : Byte) (v : Word) (a : Addr) : (s.jumpLong k v).writable a = s.writable a := rfl

/-! `setDecimalNVZ`. -/

@[simp] theorem State.setDecimalNVZ_cfg (s : State) {n : Nat} (r : BitVec n) : (s.setDecimalNVZ r).cfg = s.cfg := by unfold State.setDecimalNVZ; split <;> rfl

@[simp] theorem State.setDecimalNVZ_a (s : State) {n : Nat} (r : BitVec n) : (s.setDecimalNVZ r).a = s.a := by unfold State.setDecimalNVZ; split <;> rfl

@[simp] theorem State.setDecimalNVZ_b (s : State) {n : Nat} (r : BitVec n) : (s.setDecimalNVZ r).b = s.b := by unfold State.setDecimalNVZ; split <;> rfl

@[simp] theorem State.setDecimalNVZ_x (s : State) {n : Nat} (r : BitVec n) : (s.setDecimalNVZ r).x = s.x := by unfold State.setDecimalNVZ; split <;> rfl

@[simp] theorem State.setDecimalNVZ_y (s : State) {n : Nat} (r : BitVec n) : (s.setDecimalNVZ r).y = s.y := by unfold State.setDecimalNVZ; split <;> rfl

@[simp] theorem State.setDecimalNVZ_sp (s : State) {n : Nat} (r : BitVec n) : (s.setDecimalNVZ r).sp = s.sp := by unfold State.setDecimalNVZ; split <;> rfl

@[simp] theorem State.setDecimalNVZ_d (s : State) {n : Nat} (r : BitVec n) : (s.setDecimalNVZ r).d = s.d := by unfold State.setDecimalNVZ; split <;> rfl

@[simp] theorem State.setDecimalNVZ_dbr (s : State) {n : Nat} (r : BitVec n) : (s.setDecimalNVZ r).dbr = s.dbr := by unfold State.setDecimalNVZ; split <;> rfl

@[simp] theorem State.setDecimalNVZ_pbr (s : State) {n : Nat} (r : BitVec n) : (s.setDecimalNVZ r).pbr = s.pbr := by unfold State.setDecimalNVZ; split <;> rfl

@[simp] theorem State.setDecimalNVZ_pc (s : State) {n : Nat} (r : BitVec n) : (s.setDecimalNVZ r).pc = s.pc := by unfold State.setDecimalNVZ; split <;> rfl

@[simp] theorem State.setDecimalNVZ_e (s : State) {n : Nat} (r : BitVec n) : (s.setDecimalNVZ r).e = s.e := by unfold State.setDecimalNVZ; split <;> rfl

@[simp] theorem State.setDecimalNVZ_run (s : State) {n : Nat} (r : BitVec n) : (s.setDecimalNVZ r).run = s.run := by unfold State.setDecimalNVZ; split <;> rfl

@[simp] theorem State.setDecimalNVZ_irqLine (s : State) {n : Nat} (r : BitVec n) : (s.setDecimalNVZ r).irqLine = s.irqLine := by unfold State.setDecimalNVZ; split <;> rfl

@[simp] theorem State.setDecimalNVZ_nmiPending (s : State) {n : Nat} (r : BitVec n) : (s.setDecimalNVZ r).nmiPending = s.nmiPending := by unfold State.setDecimalNVZ; split <;> rfl

@[simp] theorem State.setDecimalNVZ_resetLine (s : State) {n : Nat} (r : BitVec n) : (s.setDecimalNVZ r).resetLine = s.resetLine := by unfold State.setDecimalNVZ; split <;> rfl

@[simp] theorem State.setDecimalNVZ_abortPending (s : State) {n : Nat} (r : BitVec n) : (s.setDecimalNVZ r).abortPending = s.abortPending := by unfold State.setDecimalNVZ; split <;> rfl

@[simp] theorem State.setDecimalNVZ_mem (s : State) {n : Nat} (r : BitVec n) : (s.setDecimalNVZ r).mem = s.mem := by unfold State.setDecimalNVZ; split <;> rfl

@[simp] theorem State.setDecimalNVZ_ioLog (s : State) {n : Nat} (r : BitVec n) : (s.setDecimalNVZ r).ioLog = s.ioLog := by unfold State.setDecimalNVZ; split <;> rfl

@[simp] theorem State.setDecimalNVZ_byteAt (s : State) {n : Nat} (r : BitVec n) (a : Addr) : (s.setDecimalNVZ r).byteAt a = s.byteAt a := by unfold State.setDecimalNVZ; split <;> rfl

@[simp] theorem State.setDecimalNVZ_isIo (s : State) {n : Nat} (r : BitVec n) (a : Addr) : (s.setDecimalNVZ r).isIo a = s.isIo a := by unfold State.setDecimalNVZ; split <;> rfl

@[simp] theorem State.setDecimalNVZ_writable (s : State) {n : Nat} (r : BitVec n) (a : Addr) : (s.setDecimalNVZ r).writable a = s.writable a := by unfold State.setDecimalNVZ; split <;> rfl

end Sys2Proof.Machine
end

