-- ==== Sys2Proof/Laws/Flags.lean ====
section
/-! SUPPORT. The flags of P under every named update, the two widths, and the halves of words. -/

namespace Sys2Proof.Machine

/-! One bit of P. -/

theorem getLsbD_setBit (p : BitVec 8) (k j : Nat) (hj : j < 8) (v : Bool) :
    (setBit p k v).getLsbD j = if j = k then v else p.getLsbD j := by
  unfold setBit
  cases v <;> simp [hj] <;> by_cases h : j = k <;> simp [h] <;> omega

/-- A byte is its eight bits. -/
theorem byte_ext {p q : BitVec 8} (h : ∀ k < 8, p.getLsbD k = q.getLsbD k) : p = q :=
  BitVec.eq_of_getLsbD_eq h

@[simp] theorem State.setFlagC_flagC (s : State) (v : Bool) : (s.setFlagC v).flagC = v :=
  (getLsbD_setBit _ _ _ (by decide) _).trans (if_pos rfl)

@[simp] theorem State.setFlagC_flagZ (s : State) (v : Bool) : (s.setFlagC v).flagZ = s.flagZ :=
  (getLsbD_setBit _ _ _ (by decide) _).trans (if_neg (by decide))

@[simp] theorem State.setFlagC_flagI (s : State) (v : Bool) : (s.setFlagC v).flagI = s.flagI :=
  (getLsbD_setBit _ _ _ (by decide) _).trans (if_neg (by decide))

@[simp] theorem State.setFlagC_flagD (s : State) (v : Bool) : (s.setFlagC v).flagD = s.flagD :=
  (getLsbD_setBit _ _ _ (by decide) _).trans (if_neg (by decide))

@[simp] theorem State.setFlagC_flagX (s : State) (v : Bool) : (s.setFlagC v).flagX = s.flagX :=
  (getLsbD_setBit _ _ _ (by decide) _).trans (if_neg (by decide))

@[simp] theorem State.setFlagC_flagM (s : State) (v : Bool) : (s.setFlagC v).flagM = s.flagM :=
  (getLsbD_setBit _ _ _ (by decide) _).trans (if_neg (by decide))

@[simp] theorem State.setFlagC_flagV (s : State) (v : Bool) : (s.setFlagC v).flagV = s.flagV :=
  (getLsbD_setBit _ _ _ (by decide) _).trans (if_neg (by decide))

@[simp] theorem State.setFlagC_flagN (s : State) (v : Bool) : (s.setFlagC v).flagN = s.flagN :=
  (getLsbD_setBit _ _ _ (by decide) _).trans (if_neg (by decide))

@[simp] theorem State.setFlagZ_flagC (s : State) (v : Bool) : (s.setFlagZ v).flagC = s.flagC :=
  (getLsbD_setBit _ _ _ (by decide) _).trans (if_neg (by decide))

@[simp] theorem State.setFlagZ_flagZ (s : State) (v : Bool) : (s.setFlagZ v).flagZ = v :=
  (getLsbD_setBit _ _ _ (by decide) _).trans (if_pos rfl)

@[simp] theorem State.setFlagZ_flagI (s : State) (v : Bool) : (s.setFlagZ v).flagI = s.flagI :=
  (getLsbD_setBit _ _ _ (by decide) _).trans (if_neg (by decide))

@[simp] theorem State.setFlagZ_flagD (s : State) (v : Bool) : (s.setFlagZ v).flagD = s.flagD :=
  (getLsbD_setBit _ _ _ (by decide) _).trans (if_neg (by decide))

@[simp] theorem State.setFlagZ_flagX (s : State) (v : Bool) : (s.setFlagZ v).flagX = s.flagX :=
  (getLsbD_setBit _ _ _ (by decide) _).trans (if_neg (by decide))

@[simp] theorem State.setFlagZ_flagM (s : State) (v : Bool) : (s.setFlagZ v).flagM = s.flagM :=
  (getLsbD_setBit _ _ _ (by decide) _).trans (if_neg (by decide))

@[simp] theorem State.setFlagZ_flagV (s : State) (v : Bool) : (s.setFlagZ v).flagV = s.flagV :=
  (getLsbD_setBit _ _ _ (by decide) _).trans (if_neg (by decide))

@[simp] theorem State.setFlagZ_flagN (s : State) (v : Bool) : (s.setFlagZ v).flagN = s.flagN :=
  (getLsbD_setBit _ _ _ (by decide) _).trans (if_neg (by decide))

@[simp] theorem State.setFlagI_flagC (s : State) (v : Bool) : (s.setFlagI v).flagC = s.flagC :=
  (getLsbD_setBit _ _ _ (by decide) _).trans (if_neg (by decide))

@[simp] theorem State.setFlagI_flagZ (s : State) (v : Bool) : (s.setFlagI v).flagZ = s.flagZ :=
  (getLsbD_setBit _ _ _ (by decide) _).trans (if_neg (by decide))

@[simp] theorem State.setFlagI_flagI (s : State) (v : Bool) : (s.setFlagI v).flagI = v :=
  (getLsbD_setBit _ _ _ (by decide) _).trans (if_pos rfl)

@[simp] theorem State.setFlagI_flagD (s : State) (v : Bool) : (s.setFlagI v).flagD = s.flagD :=
  (getLsbD_setBit _ _ _ (by decide) _).trans (if_neg (by decide))

@[simp] theorem State.setFlagI_flagX (s : State) (v : Bool) : (s.setFlagI v).flagX = s.flagX :=
  (getLsbD_setBit _ _ _ (by decide) _).trans (if_neg (by decide))

@[simp] theorem State.setFlagI_flagM (s : State) (v : Bool) : (s.setFlagI v).flagM = s.flagM :=
  (getLsbD_setBit _ _ _ (by decide) _).trans (if_neg (by decide))

@[simp] theorem State.setFlagI_flagV (s : State) (v : Bool) : (s.setFlagI v).flagV = s.flagV :=
  (getLsbD_setBit _ _ _ (by decide) _).trans (if_neg (by decide))

@[simp] theorem State.setFlagI_flagN (s : State) (v : Bool) : (s.setFlagI v).flagN = s.flagN :=
  (getLsbD_setBit _ _ _ (by decide) _).trans (if_neg (by decide))

@[simp] theorem State.setFlagD_flagC (s : State) (v : Bool) : (s.setFlagD v).flagC = s.flagC :=
  (getLsbD_setBit _ _ _ (by decide) _).trans (if_neg (by decide))

@[simp] theorem State.setFlagD_flagZ (s : State) (v : Bool) : (s.setFlagD v).flagZ = s.flagZ :=
  (getLsbD_setBit _ _ _ (by decide) _).trans (if_neg (by decide))

@[simp] theorem State.setFlagD_flagI (s : State) (v : Bool) : (s.setFlagD v).flagI = s.flagI :=
  (getLsbD_setBit _ _ _ (by decide) _).trans (if_neg (by decide))

@[simp] theorem State.setFlagD_flagD (s : State) (v : Bool) : (s.setFlagD v).flagD = v :=
  (getLsbD_setBit _ _ _ (by decide) _).trans (if_pos rfl)

@[simp] theorem State.setFlagD_flagX (s : State) (v : Bool) : (s.setFlagD v).flagX = s.flagX :=
  (getLsbD_setBit _ _ _ (by decide) _).trans (if_neg (by decide))

@[simp] theorem State.setFlagD_flagM (s : State) (v : Bool) : (s.setFlagD v).flagM = s.flagM :=
  (getLsbD_setBit _ _ _ (by decide) _).trans (if_neg (by decide))

@[simp] theorem State.setFlagD_flagV (s : State) (v : Bool) : (s.setFlagD v).flagV = s.flagV :=
  (getLsbD_setBit _ _ _ (by decide) _).trans (if_neg (by decide))

@[simp] theorem State.setFlagD_flagN (s : State) (v : Bool) : (s.setFlagD v).flagN = s.flagN :=
  (getLsbD_setBit _ _ _ (by decide) _).trans (if_neg (by decide))

@[simp] theorem State.setFlagX_flagC (s : State) (v : Bool) : (s.setFlagX v).flagC = s.flagC :=
  (getLsbD_setBit _ _ _ (by decide) _).trans (if_neg (by decide))

@[simp] theorem State.setFlagX_flagZ (s : State) (v : Bool) : (s.setFlagX v).flagZ = s.flagZ :=
  (getLsbD_setBit _ _ _ (by decide) _).trans (if_neg (by decide))

@[simp] theorem State.setFlagX_flagI (s : State) (v : Bool) : (s.setFlagX v).flagI = s.flagI :=
  (getLsbD_setBit _ _ _ (by decide) _).trans (if_neg (by decide))

@[simp] theorem State.setFlagX_flagD (s : State) (v : Bool) : (s.setFlagX v).flagD = s.flagD :=
  (getLsbD_setBit _ _ _ (by decide) _).trans (if_neg (by decide))

@[simp] theorem State.setFlagX_flagX (s : State) (v : Bool) : (s.setFlagX v).flagX = v :=
  (getLsbD_setBit _ _ _ (by decide) _).trans (if_pos rfl)

@[simp] theorem State.setFlagX_flagM (s : State) (v : Bool) : (s.setFlagX v).flagM = s.flagM :=
  (getLsbD_setBit _ _ _ (by decide) _).trans (if_neg (by decide))

@[simp] theorem State.setFlagX_flagV (s : State) (v : Bool) : (s.setFlagX v).flagV = s.flagV :=
  (getLsbD_setBit _ _ _ (by decide) _).trans (if_neg (by decide))

@[simp] theorem State.setFlagX_flagN (s : State) (v : Bool) : (s.setFlagX v).flagN = s.flagN :=
  (getLsbD_setBit _ _ _ (by decide) _).trans (if_neg (by decide))

@[simp] theorem State.setFlagM_flagC (s : State) (v : Bool) : (s.setFlagM v).flagC = s.flagC :=
  (getLsbD_setBit _ _ _ (by decide) _).trans (if_neg (by decide))

@[simp] theorem State.setFlagM_flagZ (s : State) (v : Bool) : (s.setFlagM v).flagZ = s.flagZ :=
  (getLsbD_setBit _ _ _ (by decide) _).trans (if_neg (by decide))

@[simp] theorem State.setFlagM_flagI (s : State) (v : Bool) : (s.setFlagM v).flagI = s.flagI :=
  (getLsbD_setBit _ _ _ (by decide) _).trans (if_neg (by decide))

@[simp] theorem State.setFlagM_flagD (s : State) (v : Bool) : (s.setFlagM v).flagD = s.flagD :=
  (getLsbD_setBit _ _ _ (by decide) _).trans (if_neg (by decide))

@[simp] theorem State.setFlagM_flagX (s : State) (v : Bool) : (s.setFlagM v).flagX = s.flagX :=
  (getLsbD_setBit _ _ _ (by decide) _).trans (if_neg (by decide))

@[simp] theorem State.setFlagM_flagM (s : State) (v : Bool) : (s.setFlagM v).flagM = v :=
  (getLsbD_setBit _ _ _ (by decide) _).trans (if_pos rfl)

@[simp] theorem State.setFlagM_flagV (s : State) (v : Bool) : (s.setFlagM v).flagV = s.flagV :=
  (getLsbD_setBit _ _ _ (by decide) _).trans (if_neg (by decide))

@[simp] theorem State.setFlagM_flagN (s : State) (v : Bool) : (s.setFlagM v).flagN = s.flagN :=
  (getLsbD_setBit _ _ _ (by decide) _).trans (if_neg (by decide))

@[simp] theorem State.setFlagV_flagC (s : State) (v : Bool) : (s.setFlagV v).flagC = s.flagC :=
  (getLsbD_setBit _ _ _ (by decide) _).trans (if_neg (by decide))

@[simp] theorem State.setFlagV_flagZ (s : State) (v : Bool) : (s.setFlagV v).flagZ = s.flagZ :=
  (getLsbD_setBit _ _ _ (by decide) _).trans (if_neg (by decide))

@[simp] theorem State.setFlagV_flagI (s : State) (v : Bool) : (s.setFlagV v).flagI = s.flagI :=
  (getLsbD_setBit _ _ _ (by decide) _).trans (if_neg (by decide))

@[simp] theorem State.setFlagV_flagD (s : State) (v : Bool) : (s.setFlagV v).flagD = s.flagD :=
  (getLsbD_setBit _ _ _ (by decide) _).trans (if_neg (by decide))

@[simp] theorem State.setFlagV_flagX (s : State) (v : Bool) : (s.setFlagV v).flagX = s.flagX :=
  (getLsbD_setBit _ _ _ (by decide) _).trans (if_neg (by decide))

@[simp] theorem State.setFlagV_flagM (s : State) (v : Bool) : (s.setFlagV v).flagM = s.flagM :=
  (getLsbD_setBit _ _ _ (by decide) _).trans (if_neg (by decide))

@[simp] theorem State.setFlagV_flagV (s : State) (v : Bool) : (s.setFlagV v).flagV = v :=
  (getLsbD_setBit _ _ _ (by decide) _).trans (if_pos rfl)

@[simp] theorem State.setFlagV_flagN (s : State) (v : Bool) : (s.setFlagV v).flagN = s.flagN :=
  (getLsbD_setBit _ _ _ (by decide) _).trans (if_neg (by decide))

@[simp] theorem State.setFlagN_flagC (s : State) (v : Bool) : (s.setFlagN v).flagC = s.flagC :=
  (getLsbD_setBit _ _ _ (by decide) _).trans (if_neg (by decide))

@[simp] theorem State.setFlagN_flagZ (s : State) (v : Bool) : (s.setFlagN v).flagZ = s.flagZ :=
  (getLsbD_setBit _ _ _ (by decide) _).trans (if_neg (by decide))

@[simp] theorem State.setFlagN_flagI (s : State) (v : Bool) : (s.setFlagN v).flagI = s.flagI :=
  (getLsbD_setBit _ _ _ (by decide) _).trans (if_neg (by decide))

@[simp] theorem State.setFlagN_flagD (s : State) (v : Bool) : (s.setFlagN v).flagD = s.flagD :=
  (getLsbD_setBit _ _ _ (by decide) _).trans (if_neg (by decide))

@[simp] theorem State.setFlagN_flagX (s : State) (v : Bool) : (s.setFlagN v).flagX = s.flagX :=
  (getLsbD_setBit _ _ _ (by decide) _).trans (if_neg (by decide))

@[simp] theorem State.setFlagN_flagM (s : State) (v : Bool) : (s.setFlagN v).flagM = s.flagM :=
  (getLsbD_setBit _ _ _ (by decide) _).trans (if_neg (by decide))

@[simp] theorem State.setFlagN_flagV (s : State) (v : Bool) : (s.setFlagN v).flagV = s.flagV :=
  (getLsbD_setBit _ _ _ (by decide) _).trans (if_neg (by decide))

@[simp] theorem State.setFlagN_flagN (s : State) (v : Bool) : (s.setFlagN v).flagN = v :=
  (getLsbD_setBit _ _ _ (by decide) _).trans (if_pos rfl)

@[simp] theorem State.setNZ_flagC (s : State) {n : Nat} (v : BitVec n) : (s.setNZ v).flagC = s.flagC := by
  simp [State.setNZ]

@[simp] theorem State.setNZ_flagZ (s : State) {n : Nat} (v : BitVec n) : (s.setNZ v).flagZ = (v.toNat == 0) := by
  simp [State.setNZ]

@[simp] theorem State.setNZ_flagI (s : State) {n : Nat} (v : BitVec n) : (s.setNZ v).flagI = s.flagI := by
  simp [State.setNZ]

@[simp] theorem State.setNZ_flagD (s : State) {n : Nat} (v : BitVec n) : (s.setNZ v).flagD = s.flagD := by
  simp [State.setNZ]

@[simp] theorem State.setNZ_flagX (s : State) {n : Nat} (v : BitVec n) : (s.setNZ v).flagX = s.flagX := by
  simp [State.setNZ]

@[simp] theorem State.setNZ_flagM (s : State) {n : Nat} (v : BitVec n) : (s.setNZ v).flagM = s.flagM := by
  simp [State.setNZ]

@[simp] theorem State.setNZ_flagV (s : State) {n : Nat} (v : BitVec n) : (s.setNZ v).flagV = s.flagV := by
  simp [State.setNZ]

@[simp] theorem State.setNZ_flagN (s : State) {n : Nat} (v : BitVec n) : (s.setNZ v).flagN = v.msb := by
  simp [State.setNZ]

@[simp] theorem State.setCompare_flagC (s : State) {n : Nat} (r m : BitVec n) : (s.setCompare r m).flagC = decide (m.toNat ≤ r.toNat) := by
  simp [State.setCompare]

@[simp] theorem State.setCompare_flagZ (s : State) {n : Nat} (r m : BitVec n) : (s.setCompare r m).flagZ = ((r - m).toNat == 0) := by
  simp [State.setCompare]

@[simp] theorem State.setCompare_flagI (s : State) {n : Nat} (r m : BitVec n) : (s.setCompare r m).flagI = s.flagI := by
  simp [State.setCompare]

@[simp] theorem State.setCompare_flagD (s : State) {n : Nat} (r m : BitVec n) : (s.setCompare r m).flagD = s.flagD := by
  simp [State.setCompare]

@[simp] theorem State.setCompare_flagX (s : State) {n : Nat} (r m : BitVec n) : (s.setCompare r m).flagX = s.flagX := by
  simp [State.setCompare]

@[simp] theorem State.setCompare_flagM (s : State) {n : Nat} (r m : BitVec n) : (s.setCompare r m).flagM = s.flagM := by
  simp [State.setCompare]

@[simp] theorem State.setCompare_flagV (s : State) {n : Nat} (r m : BitVec n) : (s.setCompare r m).flagV = s.flagV := by
  simp [State.setCompare]

@[simp] theorem State.setCompare_flagN (s : State) {n : Nat} (r m : BitVec n) : (s.setCompare r m).flagN = (r - m).msb := by
  simp [State.setCompare]

@[simp] theorem State.setDecimalNVZ_flagC (s : State) {n : Nat} (r : BitVec n) :
    (s.setDecimalNVZ r).flagC = s.flagC := by
  unfold State.setDecimalNVZ
  split
  · exact ((State.setFlagV_flagC _ _).trans (State.setFlagZ_flagC _ _)).trans (State.setFlagN_flagC _ _)
  all_goals exact (State.setFlagV_flagC _ _).trans (State.setNZ_flagC _ _)

@[simp] theorem State.setDecimalNVZ_flagI (s : State) {n : Nat} (r : BitVec n) :
    (s.setDecimalNVZ r).flagI = s.flagI := by
  unfold State.setDecimalNVZ
  split
  · exact ((State.setFlagV_flagI _ _).trans (State.setFlagZ_flagI _ _)).trans (State.setFlagN_flagI _ _)
  all_goals exact (State.setFlagV_flagI _ _).trans (State.setNZ_flagI _ _)

@[simp] theorem State.setDecimalNVZ_flagD (s : State) {n : Nat} (r : BitVec n) :
    (s.setDecimalNVZ r).flagD = s.flagD := by
  unfold State.setDecimalNVZ
  split
  · exact ((State.setFlagV_flagD _ _).trans (State.setFlagZ_flagD _ _)).trans (State.setFlagN_flagD _ _)
  all_goals exact (State.setFlagV_flagD _ _).trans (State.setNZ_flagD _ _)

@[simp] theorem State.setDecimalNVZ_flagX (s : State) {n : Nat} (r : BitVec n) :
    (s.setDecimalNVZ r).flagX = s.flagX := by
  unfold State.setDecimalNVZ
  split
  · exact ((State.setFlagV_flagX _ _).trans (State.setFlagZ_flagX _ _)).trans (State.setFlagN_flagX _ _)
  all_goals exact (State.setFlagV_flagX _ _).trans (State.setNZ_flagX _ _)

@[simp] theorem State.setDecimalNVZ_flagM (s : State) {n : Nat} (r : BitVec n) :
    (s.setDecimalNVZ r).flagM = s.flagM := by
  unfold State.setDecimalNVZ
  split
  · exact ((State.setFlagV_flagM _ _).trans (State.setFlagZ_flagM _ _)).trans (State.setFlagN_flagM _ _)
  all_goals exact (State.setFlagV_flagM _ _).trans (State.setNZ_flagM _ _)

/-! Updates that leave P alone leave every flag alone. -/

@[simp] theorem State.setC_flagC (s : State) (v : Word) : (s.setC v).flagC = s.flagC := by
  simp only [State.flagC, State.setC_p]

@[simp] theorem State.setC_flagZ (s : State) (v : Word) : (s.setC v).flagZ = s.flagZ := by
  simp only [State.flagZ, State.setC_p]

@[simp] theorem State.setC_flagI (s : State) (v : Word) : (s.setC v).flagI = s.flagI := by
  simp only [State.flagI, State.setC_p]

@[simp] theorem State.setC_flagD (s : State) (v : Word) : (s.setC v).flagD = s.flagD := by
  simp only [State.flagD, State.setC_p]

@[simp] theorem State.setC_flagX (s : State) (v : Word) : (s.setC v).flagX = s.flagX := by
  simp only [State.flagX, State.setC_p]

@[simp] theorem State.setC_flagM (s : State) (v : Word) : (s.setC v).flagM = s.flagM := by
  simp only [State.flagM, State.setC_p]

@[simp] theorem State.setC_flagV (s : State) (v : Word) : (s.setC v).flagV = s.flagV := by
  simp only [State.flagV, State.setC_p]

@[simp] theorem State.setC_flagN (s : State) (v : Word) : (s.setC v).flagN = s.flagN := by
  simp only [State.flagN, State.setC_p]

@[simp] theorem State.setAcc_flagC (s : State) (w : Width) (v : BitVec w.bits) : (s.setAcc w v).flagC = s.flagC := by
  simp only [State.flagC, State.setAcc_p]

@[simp] theorem State.setAcc_flagZ (s : State) (w : Width) (v : BitVec w.bits) : (s.setAcc w v).flagZ = s.flagZ := by
  simp only [State.flagZ, State.setAcc_p]

@[simp] theorem State.setAcc_flagI (s : State) (w : Width) (v : BitVec w.bits) : (s.setAcc w v).flagI = s.flagI := by
  simp only [State.flagI, State.setAcc_p]

@[simp] theorem State.setAcc_flagD (s : State) (w : Width) (v : BitVec w.bits) : (s.setAcc w v).flagD = s.flagD := by
  simp only [State.flagD, State.setAcc_p]

@[simp] theorem State.setAcc_flagX (s : State) (w : Width) (v : BitVec w.bits) : (s.setAcc w v).flagX = s.flagX := by
  simp only [State.flagX, State.setAcc_p]

@[simp] theorem State.setAcc_flagM (s : State) (w : Width) (v : BitVec w.bits) : (s.setAcc w v).flagM = s.flagM := by
  simp only [State.flagM, State.setAcc_p]

@[simp] theorem State.setAcc_flagV (s : State) (w : Width) (v : BitVec w.bits) : (s.setAcc w v).flagV = s.flagV := by
  simp only [State.flagV, State.setAcc_p]

@[simp] theorem State.setAcc_flagN (s : State) (w : Width) (v : BitVec w.bits) : (s.setAcc w v).flagN = s.flagN := by
  simp only [State.flagN, State.setAcc_p]

@[simp] theorem State.setX_flagC (s : State) {n : Nat} (v : BitVec n) : (s.setX v).flagC = s.flagC := by
  simp only [State.flagC, State.setX_p]

@[simp] theorem State.setX_flagZ (s : State) {n : Nat} (v : BitVec n) : (s.setX v).flagZ = s.flagZ := by
  simp only [State.flagZ, State.setX_p]

@[simp] theorem State.setX_flagI (s : State) {n : Nat} (v : BitVec n) : (s.setX v).flagI = s.flagI := by
  simp only [State.flagI, State.setX_p]

@[simp] theorem State.setX_flagD (s : State) {n : Nat} (v : BitVec n) : (s.setX v).flagD = s.flagD := by
  simp only [State.flagD, State.setX_p]

@[simp] theorem State.setX_flagX (s : State) {n : Nat} (v : BitVec n) : (s.setX v).flagX = s.flagX := by
  simp only [State.flagX, State.setX_p]

@[simp] theorem State.setX_flagM (s : State) {n : Nat} (v : BitVec n) : (s.setX v).flagM = s.flagM := by
  simp only [State.flagM, State.setX_p]

@[simp] theorem State.setX_flagV (s : State) {n : Nat} (v : BitVec n) : (s.setX v).flagV = s.flagV := by
  simp only [State.flagV, State.setX_p]

@[simp] theorem State.setX_flagN (s : State) {n : Nat} (v : BitVec n) : (s.setX v).flagN = s.flagN := by
  simp only [State.flagN, State.setX_p]

@[simp] theorem State.setY_flagC (s : State) {n : Nat} (v : BitVec n) : (s.setY v).flagC = s.flagC := by
  simp only [State.flagC, State.setY_p]

@[simp] theorem State.setY_flagZ (s : State) {n : Nat} (v : BitVec n) : (s.setY v).flagZ = s.flagZ := by
  simp only [State.flagZ, State.setY_p]

@[simp] theorem State.setY_flagI (s : State) {n : Nat} (v : BitVec n) : (s.setY v).flagI = s.flagI := by
  simp only [State.flagI, State.setY_p]

@[simp] theorem State.setY_flagD (s : State) {n : Nat} (v : BitVec n) : (s.setY v).flagD = s.flagD := by
  simp only [State.flagD, State.setY_p]

@[simp] theorem State.setY_flagX (s : State) {n : Nat} (v : BitVec n) : (s.setY v).flagX = s.flagX := by
  simp only [State.flagX, State.setY_p]

@[simp] theorem State.setY_flagM (s : State) {n : Nat} (v : BitVec n) : (s.setY v).flagM = s.flagM := by
  simp only [State.flagM, State.setY_p]

@[simp] theorem State.setY_flagV (s : State) {n : Nat} (v : BitVec n) : (s.setY v).flagV = s.flagV := by
  simp only [State.flagV, State.setY_p]

@[simp] theorem State.setY_flagN (s : State) {n : Nat} (v : BitVec n) : (s.setY v).flagN = s.flagN := by
  simp only [State.flagN, State.setY_p]

@[simp] theorem State.clearIndexHigh_flagC (s : State) : s.clearIndexHigh.flagC = s.flagC := by
  simp only [State.flagC, State.clearIndexHigh_p]

@[simp] theorem State.clearIndexHigh_flagZ (s : State) : s.clearIndexHigh.flagZ = s.flagZ := by
  simp only [State.flagZ, State.clearIndexHigh_p]

@[simp] theorem State.clearIndexHigh_flagI (s : State) : s.clearIndexHigh.flagI = s.flagI := by
  simp only [State.flagI, State.clearIndexHigh_p]

@[simp] theorem State.clearIndexHigh_flagD (s : State) : s.clearIndexHigh.flagD = s.flagD := by
  simp only [State.flagD, State.clearIndexHigh_p]

@[simp] theorem State.clearIndexHigh_flagX (s : State) : s.clearIndexHigh.flagX = s.flagX := by
  simp only [State.flagX, State.clearIndexHigh_p]

@[simp] theorem State.clearIndexHigh_flagM (s : State) : s.clearIndexHigh.flagM = s.flagM := by
  simp only [State.flagM, State.clearIndexHigh_p]

@[simp] theorem State.clearIndexHigh_flagV (s : State) : s.clearIndexHigh.flagV = s.flagV := by
  simp only [State.flagV, State.clearIndexHigh_p]

@[simp] theorem State.clearIndexHigh_flagN (s : State) : s.clearIndexHigh.flagN = s.flagN := by
  simp only [State.flagN, State.clearIndexHigh_p]

@[simp] theorem State.setS_flagC (s : State) (v : Word) : (s.setS v).flagC = s.flagC := by
  simp only [State.flagC, State.setS_p]

@[simp] theorem State.setS_flagZ (s : State) (v : Word) : (s.setS v).flagZ = s.flagZ := by
  simp only [State.flagZ, State.setS_p]

@[simp] theorem State.setS_flagI (s : State) (v : Word) : (s.setS v).flagI = s.flagI := by
  simp only [State.flagI, State.setS_p]

@[simp] theorem State.setS_flagD (s : State) (v : Word) : (s.setS v).flagD = s.flagD := by
  simp only [State.flagD, State.setS_p]

@[simp] theorem State.setS_flagX (s : State) (v : Word) : (s.setS v).flagX = s.flagX := by
  simp only [State.flagX, State.setS_p]

@[simp] theorem State.setS_flagM (s : State) (v : Word) : (s.setS v).flagM = s.flagM := by
  simp only [State.flagM, State.setS_p]

@[simp] theorem State.setS_flagV (s : State) (v : Word) : (s.setS v).flagV = s.flagV := by
  simp only [State.flagV, State.setS_p]

@[simp] theorem State.setS_flagN (s : State) (v : Word) : (s.setS v).flagN = s.flagN := by
  simp only [State.flagN, State.setS_p]

@[simp] theorem State.advance_flagC (s : State) (n : Nat) : (s.advance n).flagC = s.flagC := by
  simp only [State.flagC, State.advance_p]

@[simp] theorem State.advance_flagZ (s : State) (n : Nat) : (s.advance n).flagZ = s.flagZ := by
  simp only [State.flagZ, State.advance_p]

@[simp] theorem State.advance_flagI (s : State) (n : Nat) : (s.advance n).flagI = s.flagI := by
  simp only [State.flagI, State.advance_p]

@[simp] theorem State.advance_flagD (s : State) (n : Nat) : (s.advance n).flagD = s.flagD := by
  simp only [State.flagD, State.advance_p]

@[simp] theorem State.advance_flagX (s : State) (n : Nat) : (s.advance n).flagX = s.flagX := by
  simp only [State.flagX, State.advance_p]

@[simp] theorem State.advance_flagM (s : State) (n : Nat) : (s.advance n).flagM = s.flagM := by
  simp only [State.flagM, State.advance_p]

@[simp] theorem State.advance_flagV (s : State) (n : Nat) : (s.advance n).flagV = s.flagV := by
  simp only [State.flagV, State.advance_p]

@[simp] theorem State.advance_flagN (s : State) (n : Nat) : (s.advance n).flagN = s.flagN := by
  simp only [State.flagN, State.advance_p]

@[simp] theorem State.jump_flagC (s : State) (v : Word) : (s.jump v).flagC = s.flagC := by
  simp only [State.flagC, State.jump_p]

@[simp] theorem State.jump_flagZ (s : State) (v : Word) : (s.jump v).flagZ = s.flagZ := by
  simp only [State.flagZ, State.jump_p]

@[simp] theorem State.jump_flagI (s : State) (v : Word) : (s.jump v).flagI = s.flagI := by
  simp only [State.flagI, State.jump_p]

@[simp] theorem State.jump_flagD (s : State) (v : Word) : (s.jump v).flagD = s.flagD := by
  simp only [State.flagD, State.jump_p]

@[simp] theorem State.jump_flagX (s : State) (v : Word) : (s.jump v).flagX = s.flagX := by
  simp only [State.flagX, State.jump_p]

@[simp] theorem State.jump_flagM (s : State) (v : Word) : (s.jump v).flagM = s.flagM := by
  simp only [State.flagM, State.jump_p]

@[simp] theorem State.jump_flagV (s : State) (v : Word) : (s.jump v).flagV = s.flagV := by
  simp only [State.flagV, State.jump_p]

@[simp] theorem State.jump_flagN (s : State) (v : Word) : (s.jump v).flagN = s.flagN := by
  simp only [State.flagN, State.jump_p]

@[simp] theorem State.jumpLong_flagC (s : State) (k : Byte) (v : Word) : (s.jumpLong k v).flagC = s.flagC := by
  simp only [State.flagC, State.jumpLong_p]

@[simp] theorem State.jumpLong_flagZ (s : State) (k : Byte) (v : Word) : (s.jumpLong k v).flagZ = s.flagZ := by
  simp only [State.flagZ, State.jumpLong_p]

@[simp] theorem State.jumpLong_flagI (s : State) (k : Byte) (v : Word) : (s.jumpLong k v).flagI = s.flagI := by
  simp only [State.flagI, State.jumpLong_p]

@[simp] theorem State.jumpLong_flagD (s : State) (k : Byte) (v : Word) : (s.jumpLong k v).flagD = s.flagD := by
  simp only [State.flagD, State.jumpLong_p]

@[simp] theorem State.jumpLong_flagX (s : State) (k : Byte) (v : Word) : (s.jumpLong k v).flagX = s.flagX := by
  simp only [State.flagX, State.jumpLong_p]

@[simp] theorem State.jumpLong_flagM (s : State) (k : Byte) (v : Word) : (s.jumpLong k v).flagM = s.flagM := by
  simp only [State.flagM, State.jumpLong_p]

@[simp] theorem State.jumpLong_flagV (s : State) (k : Byte) (v : Word) : (s.jumpLong k v).flagV = s.flagV := by
  simp only [State.flagV, State.jumpLong_p]

@[simp] theorem State.jumpLong_flagN (s : State) (k : Byte) (v : Word) : (s.jumpLong k v).flagN = s.flagN := by
  simp only [State.flagN, State.jumpLong_p]

/-! The widths. -/

@[simp] theorem State.setFlagC_mw (s : State) (v : Bool) : (s.setFlagC v).mw = s.mw := by
  simp [State.mw]

@[simp] theorem State.setFlagC_xw (s : State) (v : Bool) : (s.setFlagC v).xw = s.xw := by
  simp [State.xw]

@[simp] theorem State.setFlagZ_mw (s : State) (v : Bool) : (s.setFlagZ v).mw = s.mw := by
  simp [State.mw]

@[simp] theorem State.setFlagZ_xw (s : State) (v : Bool) : (s.setFlagZ v).xw = s.xw := by
  simp [State.xw]

@[simp] theorem State.setFlagI_mw (s : State) (v : Bool) : (s.setFlagI v).mw = s.mw := by
  simp [State.mw]

@[simp] theorem State.setFlagI_xw (s : State) (v : Bool) : (s.setFlagI v).xw = s.xw := by
  simp [State.xw]

@[simp] theorem State.setFlagD_mw (s : State) (v : Bool) : (s.setFlagD v).mw = s.mw := by
  simp [State.mw]

@[simp] theorem State.setFlagD_xw (s : State) (v : Bool) : (s.setFlagD v).xw = s.xw := by
  simp [State.xw]

@[simp] theorem State.setFlagV_mw (s : State) (v : Bool) : (s.setFlagV v).mw = s.mw := by
  simp [State.mw]

@[simp] theorem State.setFlagV_xw (s : State) (v : Bool) : (s.setFlagV v).xw = s.xw := by
  simp [State.xw]

@[simp] theorem State.setFlagN_mw (s : State) (v : Bool) : (s.setFlagN v).mw = s.mw := by
  simp [State.mw]

@[simp] theorem State.setFlagN_xw (s : State) (v : Bool) : (s.setFlagN v).xw = s.xw := by
  simp [State.xw]

@[simp] theorem State.setNZ_mw (s : State) {n : Nat} (v : BitVec n) : (s.setNZ v).mw = s.mw := by
  simp [State.mw]

@[simp] theorem State.setNZ_xw (s : State) {n : Nat} (v : BitVec n) : (s.setNZ v).xw = s.xw := by
  simp [State.xw]

@[simp] theorem State.setCompare_mw (s : State) {n : Nat} (r m : BitVec n) : (s.setCompare r m).mw = s.mw := by
  simp [State.mw]

@[simp] theorem State.setCompare_xw (s : State) {n : Nat} (r m : BitVec n) : (s.setCompare r m).xw = s.xw := by
  simp [State.xw]

@[simp] theorem State.setDecimalNVZ_mw (s : State) {n : Nat} (r : BitVec n) : (s.setDecimalNVZ r).mw = s.mw := by
  simp [State.mw]

@[simp] theorem State.setDecimalNVZ_xw (s : State) {n : Nat} (r : BitVec n) : (s.setDecimalNVZ r).xw = s.xw := by
  simp [State.xw]

@[simp] theorem State.setC_mw (s : State) (v : Word) : (s.setC v).mw = s.mw := by
  simp [State.mw]

@[simp] theorem State.setC_xw (s : State) (v : Word) : (s.setC v).xw = s.xw := by
  simp [State.xw]

@[simp] theorem State.setAcc_mw (s : State) (w : Width) (v : BitVec w.bits) : (s.setAcc w v).mw = s.mw := by
  simp [State.mw]

@[simp] theorem State.setAcc_xw (s : State) (w : Width) (v : BitVec w.bits) : (s.setAcc w v).xw = s.xw := by
  simp [State.xw]

@[simp] theorem State.setX_mw (s : State) {n : Nat} (v : BitVec n) : (s.setX v).mw = s.mw := by
  simp [State.mw]

@[simp] theorem State.setX_xw (s : State) {n : Nat} (v : BitVec n) : (s.setX v).xw = s.xw := by
  simp [State.xw]

@[simp] theorem State.setY_mw (s : State) {n : Nat} (v : BitVec n) : (s.setY v).mw = s.mw := by
  simp [State.mw]

@[simp] theorem State.setY_xw (s : State) {n : Nat} (v : BitVec n) : (s.setY v).xw = s.xw := by
  simp [State.xw]

@[simp] theorem State.clearIndexHigh_mw (s : State) : s.clearIndexHigh.mw = s.mw := by
  simp [State.mw]

@[simp] theorem State.clearIndexHigh_xw (s : State) : s.clearIndexHigh.xw = s.xw := by
  simp [State.xw]

@[simp] theorem State.setS_mw (s : State) (v : Word) : (s.setS v).mw = s.mw := by
  simp [State.mw]

@[simp] theorem State.setS_xw (s : State) (v : Word) : (s.setS v).xw = s.xw := by
  simp [State.xw]

@[simp] theorem State.advance_mw (s : State) (n : Nat) : (s.advance n).mw = s.mw := by
  simp [State.mw]

@[simp] theorem State.advance_xw (s : State) (n : Nat) : (s.advance n).xw = s.xw := by
  simp [State.xw]

@[simp] theorem State.jump_mw (s : State) (v : Word) : (s.jump v).mw = s.mw := by
  simp [State.mw]

@[simp] theorem State.jump_xw (s : State) (v : Word) : (s.jump v).xw = s.xw := by
  simp [State.xw]

@[simp] theorem State.jumpLong_mw (s : State) (k : Byte) (v : Word) : (s.jumpLong k v).mw = s.mw := by
  simp [State.mw]

@[simp] theorem State.jumpLong_xw (s : State) (k : Byte) (v : Word) : (s.jumpLong k v).xw = s.xw := by
  simp [State.xw]

/-- With e = 1 the data width is 8 (R31). -/
theorem State.mw_of_e {s : State} (h : s.e = true) : s.mw = .w8 := by simp [State.mw, h]

/-- With e = 1 the index width is 8 (R32). -/
theorem State.xw_of_e {s : State} (h : s.e = true) : s.xw = .w8 := by simp [State.xw, h]

/-- With x = 1 the index width is 8 (R32). -/
theorem State.xw_of_flagX {s : State} (h : s.flagX = true) : s.xw = .w8 := by simp [State.xw, h]

/-! Halves of words. -/

theorem append_toNat (h l : Byte) : (h ++ l : Word).toNat = h.toNat * 256 + l.toNat := by
  have := BitVec.toNat_append h l
  rw [← Nat.shiftLeft_add_eq_or_of_lt (by omega), Nat.shiftLeft_eq] at this
  simpa using this

theorem low_toNat (v : Word) : (low v).toNat = v.toNat % 256 := by simp [low]

theorem high_toNat (v : Word) : (high v).toNat = v.toNat / 256 := by
  simp only [high, BitVec.extractLsb'_toNat, Nat.shiftRight_eq_div_pow]; omega

theorem fullAddr_toNat (b : Byte) (o : Word) : (fullAddr b o).toNat = b.toNat * 65536 + o.toNat := by
  have := BitVec.toNat_append b o
  rw [← Nat.shiftLeft_add_eq_or_of_lt (by omega), Nat.shiftLeft_eq] at this
  unfold fullAddr; simpa using this

theorem bankOf_toNat (a : Addr) : (bankOf a).toNat = a.toNat / 65536 := by
  simp only [bankOf, BitVec.extractLsb'_toNat, Nat.shiftRight_eq_div_pow]; omega

theorem offsetOf_toNat (a : Addr) : (offsetOf a).toNat = a.toNat % 65536 := by
  simp [offsetOf]

@[simp] theorem low_append (h l : Byte) : low (h ++ l) = l := by
  apply BitVec.eq_of_toNat_eq; rw [low_toNat, append_toNat]; omega

@[simp] theorem high_append (h l : Byte) : high (h ++ l) = h := by
  apply BitVec.eq_of_toNat_eq; rw [high_toNat, append_toNat]; omega

theorem append_high_low (v : Word) : high v ++ low v = v := by
  apply BitVec.eq_of_toNat_eq; rw [append_toNat, high_toNat, low_toNat]; omega

theorem high_zeroExtend (v : Byte) : high (v.zeroExtend 16) = 0#8 := by
  apply BitVec.eq_of_toNat_eq; rw [high_toNat]; simp; omega

theorem low_zeroExtend (v : Byte) : low (v.zeroExtend 16) = v := by
  apply BitVec.eq_of_toNat_eq; rw [low_toNat]; simp; omega

@[simp] theorem bankOf_fullAddr (b : Byte) (o : Word) : bankOf (fullAddr b o) = b := by
  apply BitVec.eq_of_toNat_eq; rw [bankOf_toNat, fullAddr_toNat]; omega

@[simp] theorem offsetOf_fullAddr (b : Byte) (o : Word) : offsetOf (fullAddr b o) = o := by
  apply BitVec.eq_of_toNat_eq; rw [offsetOf_toNat, fullAddr_toNat]; omega

theorem fullAddr_inj {b b' : Byte} {o o' : Word} (h : fullAddr b o = fullAddr b' o') : b = b' ∧ o = o' :=
  ⟨by simpa using congrArg bankOf h, by simpa using congrArg offsetOf h⟩

end Sys2Proof.Machine
end

