-- ==== Sys2Proof/Laws/Ops.lean ====
section
/-! SUPPORT. One lemma for each shared operation over memory, the stack and operands, that says once everything the operation
can do to the state; later proofs cite these and do not unfold the operations. -/

namespace Sys2Proof.Machine

/-! What reads and pulls can change. -/

/-- Only the I/O record and the count of draws differ. -/
def ReadsTo (s t : State) : Prop := ∃ l k, t = { s with ioLog := l, draws := k }

/-- Only S, the I/O record and the count of draws differ. -/
def PullsTo (s t : State) : Prop := ∃ l k q, t = { s with ioLog := l, draws := k, sp := q }

theorem ReadsTo.refl (s : State) : ReadsTo s s := ⟨s.ioLog, s.draws, rfl⟩

theorem ReadsTo.trans {s t u : State} (h : ReadsTo s t) (h' : ReadsTo t u) : ReadsTo s u := by
  obtain ⟨l, k, rfl⟩ := h
  obtain ⟨l', k', rfl⟩ := h'
  exact ⟨l', k', rfl⟩

theorem ReadsTo.pullsTo {s t : State} (h : ReadsTo s t) : PullsTo s t := by
  obtain ⟨l, k, rfl⟩ := h
  exact ⟨l, k, s.sp, rfl⟩

theorem PullsTo.trans {s t u : State} (h : PullsTo s t) (h' : PullsTo t u) : PullsTo s u := by
  obtain ⟨l, k, q, rfl⟩ := h
  obtain ⟨l', k', q', rfl⟩ := h'
  exact ⟨l', k', q', rfl⟩

/-! A state that reads have led to has every field but the I/O record and the count of draws as it was. -/

theorem ReadsTo.field {s t : State} (h : ReadsTo s t) (f : Field) : f.same s t := by
  obtain ⟨l, k, rfl⟩ := h; cases f <;> rfl

theorem ReadsTo.flag {s t : State} (h : ReadsTo s t) (f : Flag) : f.of t = f.of s := by
  obtain ⟨l, k, rfl⟩ := h; cases f <;> rfl

theorem ReadsTo.pc {s t : State} (h : ReadsTo s t) : t.pc = s.pc := by obtain ⟨l, k, rfl⟩ := h; rfl

theorem ReadsTo.mem {s t : State} (h : ReadsTo s t) : t.mem = s.mem := by obtain ⟨l, k, rfl⟩ := h; rfl

theorem ReadsTo.byteAt {s t : State} (h : ReadsTo s t) (a : Addr) : t.byteAt a = s.byteAt a := by
  obtain ⟨l, k, rfl⟩ := h; rfl

theorem ReadsTo.isIo {s t : State} (h : ReadsTo s t) (a : Addr) : t.isIo a = s.isIo a := by
  obtain ⟨l, k, rfl⟩ := h; rfl

theorem ReadsTo.writable {s t : State} (h : ReadsTo s t) (a : Addr) : t.writable a = s.writable a := by
  obtain ⟨l, k, rfl⟩ := h; rfl

theorem ReadsTo.acc {s t : State} (h : ReadsTo s t) (w : Width) : t.acc w = s.acc w := by
  obtain ⟨l, k, rfl⟩ := h; cases w <;> rfl

theorem ReadsTo.widths {s t : State} (h : ReadsTo s t) : t.mw = s.mw ∧ t.xw = s.xw := by
  obtain ⟨l, k, rfl⟩ := h; exact ⟨rfl, rfl⟩

/-- A read of one byte (R62): in `IO_REGIONS` a free value that is recorded, elsewhere the byte memory holds. -/
theorem readByte_cases {a : Addr} {s t : State} {v : Byte} (h : readByte a s = (v, t)) :
    (s.isIo a = true ∧ v = Config.ioValue s.draws ∧
      t = { s with draws := s.draws + 1, ioLog := s.ioLog ++ [.read a v] }) ∨
    (s.isIo a = false ∧ v = s.byteAt a ∧ t = s) := by
  unfold readByte at h
  split at h
  · obtain ⟨rfl, rfl⟩ := Prod.mk.inj h; exact .inl ⟨‹_›, rfl, rfl⟩
  · obtain ⟨rfl, rfl⟩ := Prod.mk.inj h; exact .inr ⟨Bool.eq_false_iff.2 ‹_›, rfl, rfl⟩

theorem readByte_readsTo {a : Addr} {s t : State} {v : Byte} (h : readByte a s = (v, t)) : ReadsTo s t := by
  rcases readByte_cases h with ⟨_, _, rfl⟩ | ⟨_, _, rfl⟩
  · exact ⟨_, _, rfl⟩
  · exact .refl _

theorem read16_readsTo {l : Loc} {s t : State} {v : Word} (h : read16 l s = (v, t)) : ReadsTo s t := by
  unfold read16 at h
  rcases h0 : readByte (byteAddr s.cfg.variant l 0) s with ⟨b0, s0⟩
  rcases h1 : readByte (byteAddr s.cfg.variant l 1) s0 with ⟨b1, s1⟩
  simp only [h0, h1] at h
  obtain ⟨rfl, rfl⟩ := Prod.mk.inj h
  exact (readByte_readsTo h0).trans (readByte_readsTo h1)

theorem read24_readsTo {l : Loc} {s t : State} {v : Addr} (h : read24 l s = (v, t)) : ReadsTo s t := by
  unfold read24 at h
  rcases h0 : read16 l s with ⟨lo, s1⟩
  rcases h1 : readByte (byteAddr s.cfg.variant l 2) s1 with ⟨b2, s2⟩
  simp only [h0, h1] at h
  obtain ⟨rfl, rfl⟩ := Prod.mk.inj h
  exact (read16_readsTo h0).trans (readByte_readsTo h1)

theorem readAt_readsTo {w : Width} {l : Loc} {s t : State} {v : BitVec w.bits} (h : readAt w l s = (v, t)) :
    ReadsTo s t := by
  cases w
  · exact readByte_readsTo h
  · exact read16_readsTo h

theorem readVector_readsTo {vec : Word} {s t : State} {v : Word} (h : readVector vec s = (v, t)) : ReadsTo s t :=
  read16_readsTo h

/-- The pointer reads of a mode (R151). -/
theorem AddrMode.resolve_readsTo {m : AddrMode} {s t : State} {l : Loc} (h : m.resolve s = (l, t)) : ReadsTo s t := by
  cases m
  case abs | long | dp | absX | longX | absY | dpX | dpY | sr => cases h; exact .refl _
  case dpInd off =>
    simp only [AddrMode.resolve] at h
    rcases h0 : read16 (dpLoc off 0#16 s) s with ⟨p, s1⟩
    rw [h0] at h; cases h; exact read16_readsTo h0
  case dpIndLong off =>
    simp only [AddrMode.resolve] at h
    rcases h0 : read24 (dpLocNew off s) s with ⟨p, s1⟩
    rw [h0] at h; cases h; exact read24_readsTo h0
  case dpXInd off =>
    simp only [AddrMode.resolve] at h
    rcases h0 : read16 (dpLoc off s.x s) s with ⟨p, s1⟩
    rw [h0] at h; cases h; exact read16_readsTo h0
  case dpIndY off =>
    simp only [AddrMode.resolve] at h
    rcases h0 : read16 (dpLoc off 0#16 s) s with ⟨p, s1⟩
    rw [h0] at h; cases h; exact read16_readsTo h0
  case dpIndLongY off =>
    simp only [AddrMode.resolve] at h
    rcases h0 : read24 (dpLocNew off s) s with ⟨p, s1⟩
    rw [h0] at h; cases h; exact read24_readsTo h0
  case srIndY off =>
    simp only [AddrMode.resolve] at h
    rcases h0 : read16 (srLoc off s) s with ⟨p, s1⟩
    rw [h0] at h; cases h; exact read16_readsTo h0

theorem Operand.read_readsTo {w : Width} {o : Operand} {s t : State} {v : BitVec w.bits}
    (h : o.read w s = (v, t)) : ReadsTo s t := by
  cases o with
  | imm v => cases h; exact .refl _
  | mem m =>
    simp only [Operand.read] at h
    rcases h0 : m.resolve s with ⟨l, s1⟩
    rw [h0] at h
    exact (AddrMode.resolve_readsTo h0).trans (readAt_readsTo h)

/-- A pull of one byte (R72): S moves up, then the byte it points at is read. -/
theorem pull8_cases {s t : State} {v : Byte} (h : pull8 s = (v, t)) :
    ∃ u, readByte (fullAddr 0#8 (stackAbove s)) s = (v, u) ∧ t = { u with sp := stackAbove s } := by
  unfold pull8 at h
  unfold readByte State.isIo State.byteAt at h ⊢
  simp only at h
  split at h
  · rename_i hio
    simp only [hio, if_true]
    obtain ⟨rfl, rfl⟩ := Prod.mk.inj h
    exact ⟨_, rfl, rfl⟩
  · rename_i hio
    simp only [hio]
    obtain ⟨rfl, rfl⟩ := Prod.mk.inj h
    exact ⟨_, rfl, rfl⟩

/-- A pull of one byte moves S up by one and changes nothing else but the I/O record. -/
theorem pull8_state {s t : State} {v : Byte} (h : pull8 s = (v, t)) :
    ∃ l k, t = { s with ioLog := l, draws := k, sp := stackUp s.e s.sp 1 } := by
  obtain ⟨u, hu, rfl⟩ := pull8_cases h
  obtain ⟨l, k, rfl⟩ := readByte_readsTo hu
  exact ⟨l, k, rfl⟩

/-- A pull of two bytes moves S up by two and changes nothing else but the I/O record. -/
theorem pull16_state {s t : State} {v : Word} (h : pull16 s = (v, t)) :
    ∃ l k, t = { s with ioLog := l, draws := k, sp := stackUp s.e s.sp 2 } := by
  unfold pull16 at h
  rcases h0 : pull8 s with ⟨lo, s0⟩
  rcases h1 : pull8 s0 with ⟨hi, s1⟩
  simp only [h0, h1] at h
  obtain ⟨rfl, rfl⟩ := Prod.mk.inj h
  obtain ⟨l, k, rfl⟩ := pull8_state h0
  obtain ⟨l', k', rfl⟩ := pull8_state h1
  exact ⟨l', k', rfl⟩

/-- A pull of `w` bits. -/
theorem pullAt_state {w : Width} {s t : State} {v : BitVec w.bits} (h : pullAt w s = (v, t)) :
    ∃ l k, t = { s with ioLog := l, draws := k, sp := stackUp s.e s.sp w.bytes } := by
  cases w
  · exact pull8_state h
  · exact pull16_state h

/-! What writes and pushes can change. -/

/-- Only memory and the I/O record differ. -/
def WritesTo (s t : State) : Prop := ∃ m l, t = { s with mem := m, ioLog := l }

theorem WritesTo.refl (s : State) : WritesTo s s := ⟨s.mem, s.ioLog, rfl⟩

theorem WritesTo.trans {s t u : State} (h : WritesTo s t) (h' : WritesTo t u) : WritesTo s u := by
  obtain ⟨l, k, rfl⟩ := h
  obtain ⟨l', k', rfl⟩ := h'
  exact ⟨l', k', rfl⟩

theorem writeByte_writesTo (a : Addr) (v : Byte) (s : State) : WritesTo s (writeByte a v s) := by
  unfold writeByte
  split
  · exact ⟨_, _, rfl⟩
  · split
    · exact ⟨_, _, rfl⟩
    · exact .refl _

/-- A write leaves every other byte of memory alone. -/
theorem writeByte_byteAt_of_ne {a b : Addr} (v : Byte) (s : State) (h : b ≠ a) :
    (writeByte a v s).byteAt b = s.byteAt b := by
  unfold writeByte State.byteAt
  split
  · rfl
  · split
    · exact Memory.read_write_of_ne v fun he => h (BitVec.eq_of_toNat_eq he)
    · rfl

/-- The byte at the address written: what was written, unless the address is in `IO_REGIONS` or not `Writable` (R63). -/
theorem writeByte_byteAt_self {s : State} (hm : Memory.wf s.mem) (a : Addr) (v : Byte) :
    (writeByte a v s).byteAt a = if s.isIo a || !s.writable a then s.byteAt a else v := by
  unfold writeByte
  by_cases h1 : s.isIo a = true
  · simp [h1, State.byteAt]
  · by_cases h2 : s.writable a = true
    · simp [h1, h2, State.byteAt, Memory.read_write_self hm.1]
    · simp [h1, h2]

/-- What a write adds to the I/O record. -/
theorem writeByte_ioLog (a : Addr) (v : Byte) (s : State) :
    (writeByte a v s).ioLog = s.ioLog ++ ioStores s [(a, v)] := by
  unfold writeByte ioStores
  by_cases h1 : s.isIo a = true
  · simp [h1]
  · by_cases h2 : s.writable a = true <;> simp [h1, h2]

/-- A write keeps the canonical form of memory. -/
theorem writeByte_wf {s : State} (hm : Memory.wf s.mem) (a : Addr) (v : Byte) : Memory.wf (writeByte a v s).mem := by
  unfold writeByte
  split
  · exact hm
  · split
    · exact Memory.wf_write hm a.isLt v
    · exact hm

/-- Bytes written one after another. -/
def writeBytes (l : List Store) (s : State) : State := l.foldl (fun s c => writeByte c.1 c.2 s) s

@[simp] theorem writeBytes_nil (s : State) : writeBytes [] s = s := rfl

@[simp] theorem writeBytes_cons (c : Store) (l : List Store) (s : State) :
    writeBytes (c :: l) s = writeBytes l (writeByte c.1 c.2 s) := rfl

theorem writeBytes_append (l l' : List Store) (s : State) :
    writeBytes (l ++ l') s = writeBytes l' (writeBytes l s) := by simp [writeBytes]

theorem writeBytes_writesTo (l : List Store) (s : State) : WritesTo s (writeBytes l s) := by
  induction l generalizing s with
  | nil => exact .refl s
  | cons c rest ih => exact (writeByte_writesTo c.1 c.2 s).trans (ih _)

theorem writeBytes_wf {s : State} (hm : Memory.wf s.mem) (l : List Store) : Memory.wf (writeBytes l s).mem := by
  induction l generalizing s with
  | nil => exact hm
  | cons c rest ih => exact ih (writeByte_wf hm c.1 c.2)

theorem WritesTo.isIo {s t : State} (h : WritesTo s t) (a : Addr) : t.isIo a = s.isIo a := by
  obtain ⟨m, l, rfl⟩ := h; rfl

theorem WritesTo.writable {s t : State} (h : WritesTo s t) (a : Addr) : t.writable a = s.writable a := by
  obtain ⟨m, l, rfl⟩ := h; rfl

theorem writeBytes_byteAt_of_notMem {l : List Store} {a : Addr} (h : a ∉ l.map (·.1)) (s : State) :
    (writeBytes l s).byteAt a = s.byteAt a := by
  induction l generalizing s with
  | nil => rfl
  | cons c rest ih =>
    simp only [List.map_cons, List.mem_cons, not_or] at h
    rw [writeBytes_cons, ih h.2, writeByte_byteAt_of_ne _ _ h.1]

/-- Bytes written to different addresses: each address holds its byte, all others are as before, and the I/O record has the
stores to `IO_REGIONS` added. -/
theorem writeBytes_stored {s : State} (hm : Memory.wf s.mem) {l : List Store} (hl : (l.map (·.1)).Nodup) :
    BytesStored l s s (writeBytes l s) := by
  refine ⟨⟨?_, fun a ha => writeBytes_byteAt_of_notMem ha s⟩, ?_, ?_⟩
  · induction l generalizing s with
    | nil => simp
    | cons c rest ih =>
      simp only [List.map_cons, List.nodup_cons] at hl
      intro d hd
      rw [writeBytes_cons]
      have hw := writeByte_writesTo c.1 c.2 s
      rcases List.mem_cons.1 hd with rfl | hd
      · rw [writeBytes_byteAt_of_notMem hl.1, writeByte_byteAt_self hm]
      · rw [ih (writeByte_wf hm _ _) hl.2 d hd, hw.isIo, hw.writable,
          writeByte_byteAt_of_ne _ _ fun he => hl.1 (List.mem_map.2 ⟨d, hd, he⟩)]
  · clear hl hm
    induction l generalizing s with
    | nil => simp [ioStores]
    | cons c rest ih =>
      have hw := writeByte_writesTo c.1 c.2 s
      have hio : ∀ l, ioStores (writeByte c.1 c.2 s) l = ioStores s l := fun l => by
        simp [ioStores, hw.isIo]
      rw [writeBytes_cons, ih, writeByte_ioLog, hio, List.append_assoc]
      congr 1
      simp only [ioStores, List.filter_cons, List.filter_nil]
      split <;> simp
  · obtain ⟨m, k, h⟩ := writeBytes_writesTo l s; rw [h]

/-- A store of `w` bits is its bytes written (R65). -/
theorem writeAt_eq (w : Width) (l : Loc) (v : BitVec w.bits) (s : State) :
    writeAt w l v s = writeBytes (storeAt s.cfg.variant w l v) s := by
  cases w <;> rfl

/-- The two bytes of a location lie at different addresses (R64). -/
theorem byteAddr_ne (u : Variant) (l : Loc) : byteAddr u l 0 ≠ byteAddr u l 1 := by
  obtain ⟨a, k⟩ := l
  intro h
  have h' := congrArg BitVec.toNat h
  have ha := a.isLt
  have hb := (bankOf a).isLt
  have hh := (high (offsetOf a)).isLt
  have ho := (offsetOf a).isLt
  have hl := (low (offsetOf a)).isLt
  cases k
  · cases u <;> simp [byteAddr, linear, fullAddr_toNat, offsetOf_toNat] at h' <;> omega
  · simp [byteAddr, fullAddr_toNat] at h'; omega
  · simp only [byteAddr, fullAddr_toNat, append_toNat, BitVec.toNat_add, BitVec.toNat_ofNat] at h'; omega

theorem storeAt_nodup (u : Variant) (w : Width) (l : Loc) (v : BitVec w.bits) :
    ((storeAt u w l v).map (·.1)).Nodup := by
  cases w <;> simp [storeAt, byteAddr_ne]

/-- A push of one byte (R71). -/
theorem push8_eq (v : Byte) (s : State) :
    push8 v s = { writeBytes (pushedAt s.e s.sp [v]) s with sp := stackDown s.e s.sp 1 } := rfl

/-- Bytes pushed one after another. -/
def pushBytes (l : List Byte) (s : State) : State := l.foldl (fun s v => push8 v s) s

theorem stackDown_add (e : Bool) (sp : Word) (m n : Nat) :
    stackDown e (stackDown e sp m) n = stackDown e sp (m + n) := by
  induction m generalizing sp with
  | zero => simp [stackDown]
  | succ m ih => rw [Nat.succ_add]; exact ih _

theorem pushBytes_cons (v : Byte) (l : List Byte) (s : State) : pushBytes (v :: l) s = pushBytes l (push8 v s) := rfl

theorem pushBytes_append (l l' : List Byte) (s : State) :
    pushBytes (l ++ l') s = pushBytes l' (pushBytes l s) := by simp [pushBytes]

/-- S is not looked at by a write of one byte. -/
theorem writeByte_with_sp (a : Addr) (v : Byte) (s : State) (q : Word) :
    writeByte a v { s with sp := q } = { writeByte a v s with sp := q } := by
  have h1 : State.isIo { s with sp := q } a = s.isIo a := rfl
  have h2 : State.writable { s with sp := q } a = s.writable a := rfl
  unfold writeByte
  rw [h1, h2]
  cases s.isIo a <;> cases s.writable a <;> rfl

/-- S is not looked at by a write. -/
theorem writeBytes_with_sp (l : List Store) (s : State) (q : Word) :
    writeBytes l { s with sp := q } = { writeBytes l s with sp := q } := by
  induction l generalizing s with
  | nil => rfl
  | cons c rest ih =>
    rw [writeBytes_cons, writeBytes_cons, writeByte_with_sp, ih]

/-- Bytes pushed one after another (R71): each at the next lower address; S goes down by their number. -/
theorem pushBytes_eq (l : List Byte) (s : State) :
    pushBytes l s = { writeBytes (pushedAt s.e s.sp l) s with sp := stackDown s.e s.sp l.length } := by
  induction l generalizing s with
  | nil => rfl
  | cons v rest ih =>
    rw [pushBytes_cons, ih]
    obtain ⟨m, k, h⟩ := writeByte_writesTo (fullAddr 0#8 s.sp) v s
    have he : (push8 v s).e = s.e := by simp only [push8, h]
    have hs : (push8 v s).sp = stackDown s.e s.sp 1 := rfl
    rw [he, hs, stackDown_add, Nat.add_comm 1, List.length_cons]
    simp only [pushedAt, writeBytes_cons]
    rw [show push8 v s = { writeByte (fullAddr 0#8 s.sp) v s with sp := stackDown s.e s.sp 1 } from rfl,
      writeBytes_with_sp]

theorem push16_eq (v : Word) (s : State) : push16 v s = pushBytes [high v, low v] s := rfl

theorem pushAt_eq (w : Width) (v : BitVec w.bits) (s : State) : pushAt w v s = pushBytes (pushOrder w v) s := by
  cases w <;> rfl

theorem stackDown_low (e : Bool) (sp : Word) (n : Nat) : low (stackDown e sp n) = low sp - BitVec.ofNat 8 n := by
  induction n generalizing sp with
  | zero => simp [stackDown]
  | succ n ih =>
    rw [stackDown, ih]
    cases e
    · apply BitVec.eq_of_toNat_eq
      simp only [low_toNat, BitVec.toNat_sub, BitVec.toNat_ofNat, Bool.false_eq_true, if_false]; omega
    · apply BitVec.eq_of_toNat_eq
      simp only [low_append, BitVec.toNat_sub, BitVec.toNat_ofNat, if_true]; omega

theorem mem_pushedAt {e : Bool} {sp : Word} {l : List Byte} {a : Addr} (h : a ∈ (pushedAt e sp l).map (·.1)) :
    ∃ k < l.length, a = fullAddr 0#8 (stackDown e sp k) := by
  induction l generalizing sp with
  | nil => simp [pushedAt] at h
  | cons v rest ih =>
    simp only [pushedAt, List.map_cons, List.mem_cons] at h
    rcases h with rfl | h
    · exact ⟨0, by simp, rfl⟩
    · obtain ⟨k, hk, rfl⟩ := ih h
      exact ⟨k + 1, by simpa using hk, by rw [stackDown_add, Nat.add_comm]⟩

/-- Up to 256 bytes pushed one after another go to different addresses. -/
theorem pushedAt_nodup (e : Bool) (sp : Word) {l : List Byte} (hl : l.length ≤ 256) :
    ((pushedAt e sp l).map (·.1)).Nodup := by
  induction l generalizing sp with
  | nil => simp [pushedAt]
  | cons v rest ih =>
    simp only [List.length_cons] at hl
    simp only [pushedAt, List.map_cons, List.nodup_cons]
    refine ⟨fun h => ?_, ih _ (by omega)⟩
    obtain ⟨k, hk, he⟩ := mem_pushedAt h
    have := congrArg (fun v => (low v).toNat) (fullAddr_inj he).2
    simp only [stackDown_add, stackDown_low, BitVec.toNat_sub, BitVec.toNat_ofNat] at this
    have h1 := (low sp).isLt
    omega

/-- A push changes memory, the I/O record and S. -/
theorem pushBytes_state (l : List Byte) (s : State) :
    ∃ m k, pushBytes l s = { s with mem := m, ioLog := k, sp := stackDown s.e s.sp l.length } := by
  obtain ⟨m, k, h⟩ := writeBytes_writesTo (pushedAt s.e s.sp l) s
  exact ⟨m, k, by rw [pushBytes_eq, h]⟩

theorem pushBytes_stored {s : State} (hm : Memory.wf s.mem) {l : List Byte} (hl : l.length ≤ 256) :
    BytesStored (pushedAt s.e s.sp l) s s (pushBytes l s) := by
  rw [pushBytes_eq]
  exact writeBytes_stored hm (pushedAt_nodup _ _ hl)

theorem pushBytes_wf {s : State} (hm : Memory.wf s.mem) (l : List Byte) : Memory.wf (pushBytes l s).mem := by
  rw [pushBytes_eq]; exact writeBytes_wf hm _

/-- The bytes an entry pushes, first pushed first (R386). -/
def entryBytes (kind : InterruptKind) (ret : Word) (s : State) : List Byte :=
  (if s.e then [] else [s.pbr]) ++ [high ret, low ret, statusByte kind s]

theorem interruptPushes_eq (kind : InterruptKind) (ret : Word) (s : State) :
    interruptPushes kind ret s = pushBytes (entryBytes kind ret s) s := by
  unfold interruptPushes entryBytes
  split <;> rfl

/-! The accumulator. -/

@[simp] theorem State.setAcc_acc (s : State) (w : Width) (v : BitVec w.bits) : (s.setAcc w v).acc w = v := by
  cases w
  · rfl
  · exact append_high_low v

@[simp] theorem State.advance_acc (s : State) (n : Nat) (w : Width) : (s.advance n).acc w = s.acc w := by
  cases w <;> rfl

/-- A write of the accumulator at a width changes the fields of that width only (R21). -/
theorem State.setAcc_sameBut (s : State) (w : Width) (v : BitVec w.bits) : SameBut (accFields w) s (s.setAcc w v) := by
  intro f hf
  cases w <;> cases f <;> first | rfl | exact absurd hf (by decide)

theorem SameBut.trans {l : List Field} {s t u : State} (h : SameBut l s t) (h' : SameBut l t u) : SameBut l s u := by
  intro f hf
  have h1 := h f hf
  have h2 := h' f hf
  cases f <;> exact h2.trans h1

theorem SameBut.mono {l l' : List Field} {s t : State} (h : SameBut l s t) (hl : l ⊆ l') : SameBut l' s t :=
  fun f hf => h f fun hm => hf (hl hm)

theorem ReadsTo.sameBut {s t : State} (h : ReadsTo s t) (l : List Field) : SameBut l s t := fun f _ => h.field f

/-! Instruction shapes. -/

/-- An instruction that reads an operand: it is refused where the operand's mode is, or goes on with the value read. -/
theorem withOperand_cases (w : Width) (o : Operand) (s : State) (k : BitVec w.bits → State → Result) :
    (∃ r, o.refusal s = some r ∧ withOperand w o s k = .refused r) ∨
    (o.refusal s = none ∧ ∃ m s1, o.read w s = (m, s1) ∧ ReadsTo s s1 ∧ withOperand w o s k = k m s1) := by
  unfold withOperand
  rcases ho : o.refusal s with _ | r
  · rcases hr : o.read w s with ⟨m, s1⟩
    exact .inr ⟨rfl, m, s1, rfl, Operand.read_readsTo hr, rfl⟩
  · exact .inl ⟨r, rfl, rfl⟩

/-- A store: it is refused where its mode is, or the bytes go to the location and PC moves on. -/
theorem store_cases (w : Width) (m : AddrMode) (v : BitVec w.bits) (s : State) :
    (∃ r, m.refusal s = some r ∧ store w m v s = .refused r) ∨
    (m.refusal s = none ∧ ∃ l s1, m.resolve s = (l, s1) ∧ ReadsTo s s1 ∧
      store w m v s = .next ((writeBytes (storeAt s.cfg.variant w l v) s1).advance m.length)) := by
  unfold store
  rcases ho : m.refusal s with _ | r
  · rcases hr : m.resolve s with ⟨l, s1⟩
    have hs := AddrMode.resolve_readsTo hr
    refine .inr ⟨rfl, l, s1, rfl, hs, ?_⟩
    obtain ⟨i, k, rfl⟩ := hs
    simp only [writeAt_eq]
  · exact .inl ⟨r, rfl, rfl⟩

/-- A read-modify-write, whose function changes P alone: it is refused where its mode is, or the result goes to the location
that was read and PC moves on. -/
theorem modify_cases (w : Width) (m : AddrMode) (s : State) (f : BitVec w.bits → State → BitVec w.bits × State)
    (hf : ∀ v t, ∃ q, (f v t).2 = { t with p := q }) :
    (∃ r, m.refusal s = some r ∧ modify w m s f = .refused r) ∨
    (m.refusal s = none ∧ ∃ l s1 v s2, m.resolve s = (l, s1) ∧ ReadsTo s s1 ∧ readAt w l s1 = (v, s2) ∧
      ReadsTo s1 s2 ∧
      modify w m s f =
        .next ((writeBytes (storeAt s.cfg.variant w l (f v s2).1) (f v s2).2).advance m.length)) := by
  unfold modify
  rcases ho : m.refusal s with _ | r
  · rcases hr : m.resolve s with ⟨l, s1⟩
    have hs := AddrMode.resolve_readsTo hr
    rcases hv : readAt w l s1 with ⟨v, s2⟩
    have hs2 := readAt_readsTo hv
    refine .inr ⟨rfl, l, s1, v, s2, rfl, hs, hv, hs2, ?_⟩
    simp only [hv]
    obtain ⟨q, hq⟩ := hf v s2
    rw [writeAt_eq, hq]
    obtain ⟨i, k, rfl⟩ := hs
    obtain ⟨i', k', rfl⟩ := hs2
    rfl
  · exact .inl ⟨r, rfl, rfl⟩

end Sys2Proof.Machine
end

