-- ==== Sys2Proof/Laws/Interrupts.lean ====
section
/-! SUPPORT. One lemma for each of the operations that take an interrupt, return from one, or reset, and for the operations that
change the widths in force. -/

namespace Sys2Proof.Machine

/-- An entry changes P alone through its flags. -/
theorem interruptFlags_state (s : State) : ∃ q, interruptFlags s = { s with p := q } := by
  unfold interruptFlags
  split <;> exact ⟨_, rfl⟩

@[simp] theorem interruptFlags_flagI (s : State) : (interruptFlags s).flagI = true := by
  unfold interruptFlags
  split
  · exact State.setFlagI_flagI _ _
  · rw [State.setFlagD_flagI, State.setFlagI_flagI]
  · rw [State.setFlagD_flagI, State.setFlagI_flagI]

/-- d is cleared by an entry, but on V6502 (R386). -/
theorem interruptFlags_flagD (s : State) :
    (interruptFlags s).flagD = (decide (s.cfg.variant = .v6502) && s.flagD) := by
  unfold interruptFlags
  split <;> rename_i h <;> simp [h]

/-- An entry leaves every flag but i and d alone (R386). -/
theorem interruptFlags_flags (s : State) : FlagsBut [.i, .d] s (interruptFlags s) := by
  intro f hf
  unfold interruptFlags
  cases f <;> simp [Flag.of] at hf ⊢ <;> split <;> simp

/-- The entry sequence (R386): the pushes, the flags, bank 0, then the vector; the run state is `Running`. -/
theorem interrupt_cases (kind : InterruptKind) (ret : Word) (s : State) :
    ∃ target s2,
      readVector (vectorOf kind s) { interruptFlags (pushBytes (entryBytes kind ret s) s) with pbr := 0#8 } =
        (target, s2) ∧
      ReadsTo { interruptFlags (pushBytes (entryBytes kind ret s) s) with pbr := 0#8 } s2 ∧
      interrupt kind ret s = { s2 with pc := target, run := .running } := by
  unfold interrupt
  rw [interruptPushes_eq]
  rcases h : readVector (vectorOf kind s)
    { interruptFlags (pushBytes (entryBytes kind ret s) s) with pbr := 0#8 } with ⟨target, s2⟩
  exact ⟨target, s2, rfl, readVector_readsTo h, rfl⟩

/-- The fields an entry can change: S goes down by three, or by four in native mode. -/
theorem interrupt_state (kind : InterruptKind) (ret : Word) (s : State) :
    ∃ m l k q target, interrupt kind ret s =
      { s with mem := m, ioLog := l, draws := k, p := q, pc := target, pbr := 0#8, run := .running
               sp := stackDown s.e s.sp (entryBytes kind ret s).length } := by
  obtain ⟨target, s2, _, hr, h⟩ := interrupt_cases kind ret s
  obtain ⟨q, hq⟩ := interruptFlags_state (pushBytes (entryBytes kind ret s) s)
  obtain ⟨m, k, hm⟩ := pushBytes_state (entryBytes kind ret s) s
  obtain ⟨l', k', rfl⟩ := hr
  rw [h, hq, hm]
  exact ⟨_, _, _, _, _, rfl⟩

/-- A pulled status byte changes P, and can clear the high bytes of X and Y (R314, R342). -/
theorem restoreStatus_state (t : Byte) (s : State) :
    ∃ x y, restoreStatus t s = { s with p := if s.e then (t &&& 0xCF#8) ||| 0x30#8 else t, x := x, y := y } := by
  have key : ∀ u : State, ∃ x y, (if u.flagX then u.clearIndexHigh else u) = { u with x := x, y := y } := fun u => by
    cases u.flagX <;> exact ⟨_, _, rfl⟩
  exact key { s with p := if s.e then (t &&& 0xCF#8) ||| 0x30#8 else t }

/-- A return from an interrupt (R342): the status byte, the program counter, and in native mode the program bank. -/
theorem returnFromInterrupt_cases (s : State) :
    ∃ t s1 target s2, pull8 s = (t, s1) ∧ pull16 (restoreStatus t s1) = (target, s2) ∧
      ((s.e = true ∧ returnFromInterrupt s = s2.jump target) ∨
       (s.e = false ∧ ∃ bank s3, pull8 s2 = (bank, s3) ∧ returnFromInterrupt s = s3.jumpLong bank target)) := by
  rcases h1 : pull8 s with ⟨t, s1⟩
  rcases h2 : pull16 (restoreStatus t s1) with ⟨target, s2⟩
  refine ⟨t, s1, target, s2, rfl, h2, ?_⟩
  have he : s2.e = s.e := by
    obtain ⟨l, k, h⟩ := pull8_state h1
    obtain ⟨l', k', h'⟩ := pull16_state h2
    obtain ⟨x, y, hr⟩ := restoreStatus_state t s1
    rw [h', hr, h]
  unfold returnFromInterrupt
  simp only [h1, h2, he]
  cases s.e
  · rcases h3 : pull8 s2 with ⟨bank, s3⟩
    exact .inr ⟨rfl, bank, s3, rfl, rfl⟩
  · exact .inl ⟨rfl, rfl⟩

/-- Bits 5 and 4 of P after a reset are 1 and i is set (R421). -/
theorem resetStatus_bits (v : Variant) (k : Nat) :
    (resetStatus v k).getLsbD 5 = true ∧ (resetStatus v k).getLsbD 4 = true ∧ (resetStatus v k).getLsbD 2 = true := by
  unfold resetStatus
  cases v <;> simp only [getLsbD_setBit _ _ _ (show (5 : Nat) < 8 by decide) _,
    getLsbD_setBit _ _ _ (show (4 : Nat) < 8 by decide) _, getLsbD_setBit _ _ _ (show (2 : Nat) < 8 by decide) _] <;>
    exact ⟨rfl, rfl, rfl⟩

/-- d after a reset is 0, but on V6502 (R421). -/
theorem resetStatus_flagD {v : Variant} (hv : v ≠ .v6502) (k : Nat) : (resetStatus v k).getLsbD 3 = false := by
  unfold resetStatus
  cases v
  · exact absurd rfl hv
  all_goals
    simp only [getLsbD_setBit _ _ _ (show (3 : Nat) < 8 by decide) _]
    rfl

/-- The reset sequence (R421): what it fixes, and what it leaves alone. -/
theorem resetSequence_state (s : State) :
    ∃ (x y z : Byte) (l : List IoEvent) (k : Nat) (target : Word), resetSequence s =
      { s with a := Config.freeByte s.draws, b := Config.freeByte (s.draws + 1), x := x.zeroExtend 16
               y := y.zeroExtend 16, sp := 0x01#8 ++ z, p := resetStatus s.cfg.variant (s.draws + 5), d := 0#16
               dbr := 0#8, pbr := 0#8, e := true, run := .running, nmiPending := false, abortPending := false
               pc := target, ioLog := l, draws := k } := by
  unfold resetSequence
  extract_lets k
  generalize hu : ({ s with a := Config.freeByte k, b := Config.freeByte (k + 1)
                            x := (Config.freeByte (k + 2)).zeroExtend 16
                            y := (Config.freeByte (k + 3)).zeroExtend 16, sp := 0x01#8 ++ Config.freeByte (k + 4)
                            p := resetStatus s.cfg.variant (k + 5), d := 0#16, dbr := 0#8, pbr := 0#8, e := true
                            run := .running, nmiPending := false, abortPending := false
                            draws := k + 10 } : State) = u
  rcases h : readVector s.cfg.vecReset u with ⟨target, s1⟩
  obtain ⟨l, j, rfl⟩ := readVector_readsTo h
  subst hu
  exact ⟨_, _, _, l, j, target, rfl⟩

/-- What XCE changes (R363). -/
theorem exchangeCarryEmulation_state (s : State) :
    ∃ q x y z, exchangeCarryEmulation s = { s with p := q, x := x, y := y, sp := z, e := s.flagC } := by
  unfold exchangeCarryEmulation
  simp only
  split
  · rename_i h; exact ⟨_, _, _, _, by rw [h]; rfl⟩
  · split
    · rename_i h _; rw [Bool.eq_false_iff.2 h]; exact ⟨_, _, _, _, rfl⟩
    · exact ⟨_, _, _, _, rfl⟩

/-- What one byte of a block move changes (R360). -/
theorem moveByte_cases (delta : Int) (bank1 bank2 : Byte) (s : State) :
    ∃ v s1, readByte (fullAddr (moveBanks bank1 bank2 s).1 s.x) s = (v, s1) ∧ ReadsTo s s1 ∧
      ∃ m l, writeByte (fullAddr (moveBanks bank1 bank2 s).2 s.y) v s1 = { s1 with mem := m, ioLog := l } ∧
      moveByte delta bank1 bank2 s =
        { s1 with
          mem := m
          ioLog := l
          dbr := (moveBanks bank1 bank2 s).2
          x := (s.xAt s.xw + BitVec.ofInt s.xw.bits delta).zeroExtend 16
          y := (s.yAt s.xw + BitVec.ofInt s.xw.bits delta).zeroExtend 16
          a := low (s.c - 1#16)
          b := high (s.c - 1#16)
          pc := if s.c = 0#16 then s.pc + 3#16 else s.pc } := by
  rcases h : readByte (fullAddr (moveBanks bank1 bank2 s).1 s.x) s with ⟨v, s1⟩
  have hr := readByte_readsTo h
  refine ⟨v, s1, rfl, hr, ?_⟩
  obtain ⟨i, k, hs1⟩ := hr
  have hy : s1.y = s.y := by rw [hs1]
  obtain ⟨m, l, hw⟩ := writeByte_writesTo (fullAddr (moveBanks bank1 bank2 s).2 s.y) v s1
  refine ⟨m, l, hw, ?_⟩
  unfold moveByte
  rw [show moveBanks bank1 bank2 s = ((moveBanks bank1 bank2 s).1, (moveBanks bank1 bank2 s).2) from rfl]
  simp only [h, hy, hw]
  have hc : ∀ w : Word, (high (w - 1#16) ++ low (w - 1#16) = 0xFFFF#16) ↔ w = 0#16 := fun w => by
    rw [append_high_low]
    constructor
    · intro h; bv_omega
    · rintro rfl; decide
  have hcc : State.c ({ s1 with mem := m, ioLog := l, dbr := (moveBanks bank1 bank2 s).2 } : State) = s.c := by
    rw [hs1]; rfl
  subst hs1
  simp only [State.setC, State.setX, State.setY, State.advance, State.xAt, State.yAt, State.xw, State.c, State.flagX]
  simp only [hc]
  by_cases h0 : s.b ++ s.a = 0#16
  · simp only [h0, if_true]
  · simp only [h0, if_false]

end Sys2Proof.Machine
end

