-- ==== Sys2Proof/Laws/Step.lean ====
section
/-! SUPPORT. What a step can do, said once: what the sampling can decide, what a fetch can answer, and the outcomes of a step. -/

namespace Sys2Proof.Machine

/-- Placing bytes from outside the machine changes memory only. -/
theorem placeBytes_state (s : State) (k : Nat) (l : List Byte) : ∃ m, placeBytes s k l = { s with mem := m } := by
  induction l generalizing s k with
  | nil => exact ⟨s.mem, rfl⟩
  | cons v l ih =>
    obtain ⟨m, h⟩ := ih { s with mem := Memory.write s.mem (fetchAddr s k).toNat v } (k + 1)
    exact ⟨m, h⟩

/-- Placing bytes from outside the machine keeps the canonical form. -/
theorem placeBytes_wf {s : State} (hm : Memory.wf s.mem) (k : Nat) (l : List Byte) : Memory.wf (placeBytes s k l).mem := by
  induction l generalizing s k with
  | nil => exact hm
  | cons v l ih => exact ih (Memory.wf_write hm (fetchAddr s k).isLt v) (k + 1)

/-- Placing an instruction where a step fetches changes memory only, and keeps the canonical form. -/
theorem State.withFetchWord_state {s : State} (hm : Memory.wf s.mem) (nbits w : Nat) :
    ∃ m, s.withFetchWord nbits w = { s with mem := m } ∧ Memory.wf m := by
  obtain ⟨m, h⟩ := placeBytes_state s 0 _
  have hwf := congrArg State.mem h ▸ placeBytes_wf hm 0 _
  exact ⟨m, h, hwf⟩

/-- Where no input is to be taken, the sampling lets the instruction execute. -/
theorem sample_execute {s : State} (hr : s.resetLine = false) (hrun : s.run = .running)
    (ha : (s.cfg.abortModelled && s.abortPending) = false) (hn : s.nmiPending = false)
    (hi : (s.irqLine && !s.flagI) = false) : sample s = .execute := by
  simp [sample, hr, hrun, ha, hn, hi]

/-- The sampling decides for a reset exactly when the reset line is asserted. -/
theorem sample_reset_iff (s : State) : sample s = .reset ↔ s.resetLine = true := by
  unfold sample
  by_cases h : s.resetLine = true
  · simp [h]
  · simp only [h, Bool.false_eq_true, if_false, iff_false]
    repeat' split
    all_goals exact Sampled.noConfusion

/-- What a fetch that answers an instruction says of it: the bytes looked at lie outside `IO_REGIONS`, the instruction is what
the decoder reads from them, and the variant has its opcode. -/
theorem fetchInstr_ok {s : State} {i : Instr} (h : fetchInstr s = .ok i) :
    fetchClear s 1 = true ∧ fetchClear s (fetchLength s) = true ∧
    decodeOp s.cfg.variant s.widths (fetchByte s 0) (fetchByte s 1) (fetchByte s 2) (fetchByte s 3) = some i := by
  unfold fetchInstr at h
  split at h
  · cases h
  · rename_i h1
    split at h
    · cases h
    · rename_i j hj
      split at h
      · rename_i h2
        cases h
        exact ⟨by simpa using h1, h2, hj⟩
      · cases h

/-- Every way a step ends in a next state: a reset, an NMI, an IRQ, the end of a wait, nothing, or an instruction. -/
theorem step_cases {s t : State} (h : step s = .next t) :
    (sample s = .reset ∧ t = resetSequence s) ∨ (sample s = .nmi ∧ t = takeNmi s) ∨ (sample s = .irq ∧ t = takeIrq s) ∨
    (sample s = .wake ∧ t = { s with run := .running }) ∨ (sample s = .stay ∧ t = s) ∨
    (sample s = .execute ∧ ∃ i, fetchInstr s = .ok i ∧ exec i s = .next t) := by
  unfold step at h
  cases hs : sample s <;> simp only [hs] at h
  · exact .inl ⟨rfl, by cases h; rfl⟩
  · cases h
  · exact .inr (.inl ⟨rfl, by cases h; rfl⟩)
  · exact .inr (.inr (.inl ⟨rfl, by cases h; rfl⟩))
  · exact .inr (.inr (.inr (.inl ⟨rfl, by cases h; rfl⟩)))
  · exact .inr (.inr (.inr (.inr (.inl ⟨rfl, by cases h; rfl⟩))))
  · cases hf : fetchInstr s with
    | error r => simp only [hf] at h; cases h
    | ok i =>
      simp only [hf] at h
      exact .inr (.inr (.inr (.inr (.inr ⟨rfl, i, rfl, h⟩))))

end Sys2Proof.Machine
end

