-- ==== Sys2Proof/Laws/Forms.lean ====
section
/-! SUPPORT. For each form function of the statements: the shared operation that is the meaning of an instruction of that form,
and the length of its encoding. With `withOperand_cases`, `store_cases` and `modify_cases` a statement about a family is one
statement about a shared operation. -/

namespace Sys2Proof.Claims

open Sys2Proof.Machine

theorem constBytes_length (w : Width) (v : Word) : (constBytes w v).length = w.bytes := by cases w <;> rfl

/-- The meaning and the length of an instruction with a `adcForm`. -/
theorem adcForm_exec {i : Instr} {o : Operand} {s : State} (h : adcForm i = some o) :
    exec i s = adc o s ∧ (encode s.widths i).length = o.length s.mw := by
  unfold adcForm at h
  split at h <;> cases h <;>
    first | exact ⟨rfl, rfl⟩ | exact ⟨rfl, by simp [encode, constBytes_length, State.widths, Operand.length]; omega⟩

/-- The meaning and the length of an instruction with a `sbcForm`. -/
theorem sbcForm_exec {i : Instr} {o : Operand} {s : State} (h : sbcForm i = some o) :
    exec i s = sbc o s ∧ (encode s.widths i).length = o.length s.mw := by
  unfold sbcForm at h
  split at h <;> cases h <;>
    first | exact ⟨rfl, rfl⟩ | exact ⟨rfl, by simp [encode, constBytes_length, State.widths, Operand.length]; omega⟩

/-- The meaning and the length of an instruction with a `andForm`. -/
theorem andForm_exec {i : Instr} {o : Operand} {s : State} (h : andForm i = some o) :
    exec i s = andA o s ∧ (encode s.widths i).length = o.length s.mw := by
  unfold andForm at h
  split at h <;> cases h <;>
    first | exact ⟨rfl, rfl⟩ | exact ⟨rfl, by simp [encode, constBytes_length, State.widths, Operand.length]; omega⟩

/-- The meaning and the length of an instruction with a `eorForm`. -/
theorem eorForm_exec {i : Instr} {o : Operand} {s : State} (h : eorForm i = some o) :
    exec i s = eorA o s ∧ (encode s.widths i).length = o.length s.mw := by
  unfold eorForm at h
  split at h <;> cases h <;>
    first | exact ⟨rfl, rfl⟩ | exact ⟨rfl, by simp [encode, constBytes_length, State.widths, Operand.length]; omega⟩

/-- The meaning and the length of an instruction with a `oraForm`. -/
theorem oraForm_exec {i : Instr} {o : Operand} {s : State} (h : oraForm i = some o) :
    exec i s = oraA o s ∧ (encode s.widths i).length = o.length s.mw := by
  unfold oraForm at h
  split at h <;> cases h <;>
    first | exact ⟨rfl, rfl⟩ | exact ⟨rfl, by simp [encode, constBytes_length, State.widths, Operand.length]; omega⟩

/-- The meaning and the length of an instruction with a `cmpForm`. -/
theorem cmpForm_exec {i : Instr} {o : Operand} {s : State} (h : cmpForm i = some o) :
    exec i s = cmpA o s ∧ (encode s.widths i).length = o.length s.mw := by
  unfold cmpForm at h
  split at h <;> cases h <;>
    first | exact ⟨rfl, rfl⟩ | exact ⟨rfl, by simp [encode, constBytes_length, State.widths, Operand.length]; omega⟩

/-- The meaning and the length of an instruction with a `ldaForm`. -/
theorem ldaForm_exec {i : Instr} {o : Operand} {s : State} (h : ldaForm i = some o) :
    exec i s = loadA o s ∧ (encode s.widths i).length = o.length s.mw := by
  unfold ldaForm at h
  split at h <;> cases h <;>
    first | exact ⟨rfl, rfl⟩ | exact ⟨rfl, by simp [encode, constBytes_length, State.widths, Operand.length]; omega⟩

/-- The meaning and the length of an instruction with a `cpxForm`. -/
theorem cpxForm_exec {i : Instr} {o : Operand} {s : State} (h : cpxForm i = some o) :
    exec i s = cmpX o s ∧ (encode s.widths i).length = o.length s.xw := by
  unfold cpxForm at h
  split at h <;> cases h <;>
    first | exact ⟨rfl, rfl⟩ | exact ⟨rfl, by simp [encode, constBytes_length, State.widths, Operand.length]; omega⟩

/-- The meaning and the length of an instruction with a `cpyForm`. -/
theorem cpyForm_exec {i : Instr} {o : Operand} {s : State} (h : cpyForm i = some o) :
    exec i s = cmpY o s ∧ (encode s.widths i).length = o.length s.xw := by
  unfold cpyForm at h
  split at h <;> cases h <;>
    first | exact ⟨rfl, rfl⟩ | exact ⟨rfl, by simp [encode, constBytes_length, State.widths, Operand.length]; omega⟩

/-- The meaning and the length of an instruction with a `ldyForm`. -/
theorem ldyForm_exec {i : Instr} {o : Operand} {s : State} (h : ldyForm i = some o) :
    exec i s = loadY o s ∧ (encode s.widths i).length = o.length s.xw := by
  unfold ldyForm at h
  split at h <;> cases h <;>
    first | exact ⟨rfl, rfl⟩ | exact ⟨rfl, by simp [encode, constBytes_length, State.widths, Operand.length]; omega⟩

/-- The meaning and the length of an instruction with an `ldxForm`. -/
theorem ldxForm_exec {i : Instr} {o : Operand} {s : State} (h : ldxForm s.cfg.ldxIndex i = some o) :
    exec i s = loadX o s ∧ (encode s.widths i).length = o.length s.xw := by
  unfold ldxForm at h
  split at h
  case h_4 | h_5 =>
    split at h <;> cases h <;> refine ⟨?_, rfl⟩ <;> simp [exec, execLdxDpX, execLdxAbsX, loadXIndexed, *]
  all_goals
    cases h <;>
      first | exact ⟨rfl, rfl⟩ | exact ⟨rfl, by simp [encode, constBytes_length, State.widths, Operand.length]; omega⟩

/-- The meaning and the length of an instruction with a `bitForm`, whose modes are never refused. -/
theorem bitForm_exec {i : Instr} {m : AddrMode} {s : State} (h : bitForm i = some m) :
    exec i s = bitMem m s ∧ (encode s.widths i).length = m.length ∧ m.refusal s = none := by
  unfold bitForm at h
  split at h <;> cases h <;> exact ⟨rfl, rfl, rfl⟩

/-- The meaning and the length of an instruction with a `staForm`. -/
theorem staForm_exec {i : Instr} {m : AddrMode} {s : State} (h : staForm i = some m) :
    exec i s = store s.mw m (s.acc s.mw) s ∧ (encode s.widths i).length = m.length := by
  unfold staForm at h
  split at h <;> cases h <;> exact ⟨rfl, rfl⟩

/-- The meaning and the length of an instruction with a `stxForm`. -/
theorem stxForm_exec {i : Instr} {m : AddrMode} {s : State} (h : stxForm i = some m) :
    exec i s = store s.xw m (s.xAt s.xw) s ∧ (encode s.widths i).length = m.length := by
  unfold stxForm at h
  split at h <;> cases h <;> exact ⟨rfl, rfl⟩

/-- The meaning and the length of an instruction with a `styForm`. -/
theorem styForm_exec {i : Instr} {m : AddrMode} {s : State} (h : styForm i = some m) :
    exec i s = store s.xw m (s.yAt s.xw) s ∧ (encode s.widths i).length = m.length := by
  unfold styForm at h
  split at h <;> cases h <;> exact ⟨rfl, rfl⟩

/-- The meaning and the length of an instruction with a `stzForm`. -/
theorem stzForm_exec {i : Instr} {m : AddrMode} {s : State} (h : stzForm i = some m) :
    exec i s = store s.mw m 0 s ∧ (encode s.widths i).length = m.length := by
  unfold stzForm at h
  split at h <;> cases h <;> exact ⟨rfl, rfl⟩

/-- The meaning and the length of an instruction with a `decForm`, whose modes are never refused and read nothing. -/
theorem decForm_exec {i : Instr} {m : AddrMode} {s : State} (h : decForm i = some m) :
    exec i s = modify s.mw m s decrement ∧ (encode s.widths i).length = m.length ∧ m.refusal s = none ∧
      (m.resolve s).2 = s := by
  unfold decForm at h
  split at h <;> cases h <;> exact ⟨rfl, rfl, rfl, rfl⟩

/-- The meaning and the length of an instruction with a `incForm`, whose modes are never refused and read nothing. -/
theorem incForm_exec {i : Instr} {m : AddrMode} {s : State} (h : incForm i = some m) :
    exec i s = modify s.mw m s increment ∧ (encode s.widths i).length = m.length ∧ m.refusal s = none ∧
      (m.resolve s).2 = s := by
  unfold incForm at h
  split at h <;> cases h <;> exact ⟨rfl, rfl, rfl, rfl⟩

/-- The meaning and the length of an instruction with a `trbForm`, whose modes are never refused and read nothing. -/
theorem trbForm_exec {i : Instr} {m : AddrMode} {s : State} (h : trbForm i = some m) :
    exec i s = modify s.mw m s (testReset s.mw) ∧ (encode s.widths i).length = m.length ∧ m.refusal s = none ∧
      (m.resolve s).2 = s := by
  unfold trbForm at h
  split at h <;> cases h <;> exact ⟨rfl, rfl, rfl, rfl⟩

/-- The meaning and the length of an instruction with a `tsbForm`, whose modes are never refused and read nothing. -/
theorem tsbForm_exec {i : Instr} {m : AddrMode} {s : State} (h : tsbForm i = some m) :
    exec i s = modify s.mw m s (testSet s.mw) ∧ (encode s.widths i).length = m.length ∧ m.refusal s = none ∧
      (m.resolve s).2 = s := by
  unfold tsbForm at h
  split at h <;> cases h <;> exact ⟨rfl, rfl, rfl, rfl⟩

/-- The shift function of each shift operation. -/
def ShiftOp.apply (op : ShiftOp) {n : Nat} (v : BitVec n) (c : Bool) : BitVec n × Bool :=
  match op with
  | .asl => shiftAsl v c
  | .lsr => shiftLsr v c
  | .rol => shiftRol v c
  | .ror => shiftRor v c

/-- The meaning and the length of an instruction with a `shiftForm`, whose modes are never refused and read nothing. -/
theorem shiftForm_exec {i : Instr} {op : ShiftOp} {m : AddrMode} {s : State} (h : shiftForm i = some (op, m)) :
    exec i s = modify s.mw m s (shifted op.apply) ∧ (encode s.widths i).length = m.length ∧ m.refusal s = none ∧
      (m.resolve s).2 = s := by
  unfold shiftForm at h
  split at h <;> cases h <;> exact ⟨rfl, rfl, rfl, rfl⟩

/-- The meaning and the length of an instruction with a `shiftAccForm`. -/
theorem shiftAccForm_exec {i : Instr} {op : ShiftOp} {s : State} (h : shiftAccForm i = some op) :
    exec i s = modifyAcc s.mw s (shifted op.apply) ∧ (encode s.widths i).length = 1 := by
  unfold shiftAccForm at h
  split at h <;> cases h <;> exact ⟨rfl, rfl⟩

/-- `pcNext` from the length of the encoding. -/
theorem pcNext_eq {i : Instr} {s : State} {n : Nat} (h : (encode s.widths i).length = n) :
    pcNext i s = s.pc + BitVec.ofNat 16 n := by simp [pcNext, h]

/-- What is left when reads, then a change of P, then a write of the accumulator, then the advance of PC are done. -/
theorem accResult_frame {s s1 : State} (h : ReadsTo s s1) (q : Byte) (w : Width) (r : BitVec w.bits) (n : Nat) :
    SameBut (.p :: accFields w) s ((State.setAcc { s1 with p := q } w r).advance n) ∧
    NothingStored s s1 ((State.setAcc { s1 with p := q } w r).advance n) ∧
    ((State.setAcc { s1 with p := q } w r).advance n).pc = s.pc + BitVec.ofNat 16 n := by
  obtain ⟨l, k, rfl⟩ := h
  refine ⟨?_, ⟨?_, ?_, ?_⟩, ?_⟩
  · intro f hf
    have := State.setAcc_sameBut ({ s with ioLog := l, draws := k, p := q } : State) w r f
      (fun h => hf (List.mem_cons_of_mem _ h))
    cases f <;> first | exact this | exact absurd (by simp) hf
  · intro a; simp; rfl
  · simp
  · simp
  · simp

/-- `setNZ` sets n and z as `FlagsNZ` says. -/
theorem setNZ_flagsNZ {n : Nat} (s : State) (v : BitVec n) : FlagsNZ v [.z, .n] s (s.setNZ v) := by
  refine ⟨?_, ?_, ?_⟩
  · simp [BitVec.msb_eq_getLsbD_last]
  · simp [beq_eq_decide]
  · intro f hf; cases f <;> simp [Flag.of] at hf ⊢

/-- `FlagsNZ` looks at the flags of its two states only. -/
theorem flagsNZ_congr {n : Nat} {v : BitVec n} {l : List Flag} {s s1 t u : State} (h : FlagsNZ v l s1 t)
    (hs : ∀ f : Flag, f.of s1 = f.of s) (hu : ∀ f : Flag, f.of u = f.of t) : FlagsNZ v l s u := by
  obtain ⟨a, b, c⟩ := h
  exact ⟨(hu .n).trans a, (hu .z).trans b, fun f hf => ((hu f).trans (c f hf)).trans (hs f)⟩

/-- Writing the accumulator and advancing PC change no flag. -/
theorem setAcc_advance_flag (s : State) (w : Width) (v : BitVec w.bits) (n : Nat) (f : Flag) :
    f.of ((s.setAcc w v).advance n) = f.of s := by
  cases f <;> simp [Flag.of]

/-- An instruction that reads an operand its mode does not refuse goes on with the value, from a state that differs by the reads. -/
theorem withOperand_eq {w : Width} {o : Operand} {s : State} (h : o.refusal s = none)
    (k : BitVec w.bits → State → Result) :
    ReadsTo s (o.read w s).2 ∧ withOperand w o s k = k (o.read w s).1 (o.read w s).2 := by
  rcases withOperand_cases w o s k with ⟨r, hr, _⟩ | ⟨_, m, s1, h1, h2, h3⟩
  · rw [h] at hr; cases hr
  · exact ⟨by rw [h1]; exact h2, by rw [h3, h1]⟩

end Sys2Proof.Claims
end

