-- ==== Sys2Proof/Laws/PerInstr.lean ====
section
/-! SUPPORT. Statements about every instruction as syntax, with one lemma for each constructor of `Instr`. -/

/-- The encoding of an instruction has the length that rule R93 gives its opcode byte at the widths in force. -/
def Sys2Proof.Laws.EncodeLength.Statement (i : Sys2Proof.Instr) : Prop :=
  ∀ w : Sys2Proof.Widths,
    (Sys2Proof.encode w i).length = Sys2Proof.opcodeLength w ((Sys2Proof.encode w i).headD 0#8)

namespace Sys2Proof.Laws

theorem EncodeLength.brk (sig : Byte) : EncodeLength.Statement (.brk sig) := by
  intro w; change _ = opcodeLength w 0x00#8; rfl

theorem EncodeLength.oraDpXInd (dp : Byte) : EncodeLength.Statement (.oraDpXInd dp) := by
  intro w; change _ = opcodeLength w 0x01#8; rfl

theorem EncodeLength.cop (sig : Byte) : EncodeLength.Statement (.cop sig) := by
  intro w; change _ = opcodeLength w 0x02#8; rfl

theorem EncodeLength.oraSr (sr : Byte) : EncodeLength.Statement (.oraSr sr) := by
  intro w; change _ = opcodeLength w 0x03#8; rfl

theorem EncodeLength.tsbDp (dp : Byte) : EncodeLength.Statement (.tsbDp dp) := by
  intro w; change _ = opcodeLength w 0x04#8; rfl

theorem EncodeLength.oraDp (dp : Byte) : EncodeLength.Statement (.oraDp dp) := by
  intro w; change _ = opcodeLength w 0x05#8; rfl

theorem EncodeLength.aslDp (dp : Byte) : EncodeLength.Statement (.aslDp dp) := by
  intro w; change _ = opcodeLength w 0x06#8; rfl

theorem EncodeLength.oraDpIndLong (dp : Byte) : EncodeLength.Statement (.oraDpIndLong dp) := by
  intro w; change _ = opcodeLength w 0x07#8; rfl

theorem EncodeLength.php : EncodeLength.Statement .php := by
  intro w; change _ = opcodeLength w 0x08#8; rfl

theorem EncodeLength.oraImm (imm : Word) : EncodeLength.Statement (.oraImm imm) := by
  rintro ⟨_ | _, _ | _⟩ <;> (change _ = opcodeLength _ 0x09#8; rfl)

theorem EncodeLength.aslA : EncodeLength.Statement .aslA := by
  intro w; change _ = opcodeLength w 0x0A#8; rfl

theorem EncodeLength.phd : EncodeLength.Statement .phd := by
  intro w; change _ = opcodeLength w 0x0B#8; rfl

theorem EncodeLength.tsbAbs (addr : Word) : EncodeLength.Statement (.tsbAbs addr) := by
  intro w; change _ = opcodeLength w 0x0C#8; rfl

theorem EncodeLength.oraAbs (addr : Word) : EncodeLength.Statement (.oraAbs addr) := by
  intro w; change _ = opcodeLength w 0x0D#8; rfl

theorem EncodeLength.aslAbs (addr : Word) : EncodeLength.Statement (.aslAbs addr) := by
  intro w; change _ = opcodeLength w 0x0E#8; rfl

theorem EncodeLength.oraLong (addr : Addr) : EncodeLength.Statement (.oraLong addr) := by
  intro w; change _ = opcodeLength w 0x0F#8; rfl

theorem EncodeLength.bpl (disp : Byte) : EncodeLength.Statement (.bpl disp) := by
  intro w; change _ = opcodeLength w 0x10#8; rfl

theorem EncodeLength.oraDpIndY (dp : Byte) : EncodeLength.Statement (.oraDpIndY dp) := by
  intro w; change _ = opcodeLength w 0x11#8; rfl

theorem EncodeLength.oraDpInd (dp : Byte) : EncodeLength.Statement (.oraDpInd dp) := by
  intro w; change _ = opcodeLength w 0x12#8; rfl

theorem EncodeLength.oraSrIndY (sr : Byte) : EncodeLength.Statement (.oraSrIndY sr) := by
  intro w; change _ = opcodeLength w 0x13#8; rfl

theorem EncodeLength.trbDp (dp : Byte) : EncodeLength.Statement (.trbDp dp) := by
  intro w; change _ = opcodeLength w 0x14#8; rfl

theorem EncodeLength.oraDpX (dp : Byte) : EncodeLength.Statement (.oraDpX dp) := by
  intro w; change _ = opcodeLength w 0x15#8; rfl

theorem EncodeLength.aslDpX (dp : Byte) : EncodeLength.Statement (.aslDpX dp) := by
  intro w; change _ = opcodeLength w 0x16#8; rfl

theorem EncodeLength.oraDpIndLongY (dp : Byte) : EncodeLength.Statement (.oraDpIndLongY dp) := by
  intro w; change _ = opcodeLength w 0x17#8; rfl

theorem EncodeLength.clc : EncodeLength.Statement .clc := by
  intro w; change _ = opcodeLength w 0x18#8; rfl

theorem EncodeLength.oraAbsY (addr : Word) : EncodeLength.Statement (.oraAbsY addr) := by
  intro w; change _ = opcodeLength w 0x19#8; rfl

theorem EncodeLength.incA : EncodeLength.Statement .incA := by
  intro w; change _ = opcodeLength w 0x1A#8; rfl

theorem EncodeLength.tcs : EncodeLength.Statement .tcs := by
  intro w; change _ = opcodeLength w 0x1B#8; rfl

theorem EncodeLength.trbAbs (addr : Word) : EncodeLength.Statement (.trbAbs addr) := by
  intro w; change _ = opcodeLength w 0x1C#8; rfl

theorem EncodeLength.oraAbsX (addr : Word) : EncodeLength.Statement (.oraAbsX addr) := by
  intro w; change _ = opcodeLength w 0x1D#8; rfl

theorem EncodeLength.aslAbsX (addr : Word) : EncodeLength.Statement (.aslAbsX addr) := by
  intro w; change _ = opcodeLength w 0x1E#8; rfl

theorem EncodeLength.oraLongX (addr : Addr) : EncodeLength.Statement (.oraLongX addr) := by
  intro w; change _ = opcodeLength w 0x1F#8; rfl

theorem EncodeLength.jsrAbs (addr : Word) : EncodeLength.Statement (.jsrAbs addr) := by
  intro w; change _ = opcodeLength w 0x20#8; rfl

theorem EncodeLength.andDpXInd (dp : Byte) : EncodeLength.Statement (.andDpXInd dp) := by
  intro w; change _ = opcodeLength w 0x21#8; rfl

theorem EncodeLength.jsl (addr : Addr) : EncodeLength.Statement (.jsl addr) := by
  intro w; change _ = opcodeLength w 0x22#8; rfl

theorem EncodeLength.andSr (sr : Byte) : EncodeLength.Statement (.andSr sr) := by
  intro w; change _ = opcodeLength w 0x23#8; rfl

theorem EncodeLength.bitDp (dp : Byte) : EncodeLength.Statement (.bitDp dp) := by
  intro w; change _ = opcodeLength w 0x24#8; rfl

theorem EncodeLength.andDp (dp : Byte) : EncodeLength.Statement (.andDp dp) := by
  intro w; change _ = opcodeLength w 0x25#8; rfl

theorem EncodeLength.rolDp (dp : Byte) : EncodeLength.Statement (.rolDp dp) := by
  intro w; change _ = opcodeLength w 0x26#8; rfl

theorem EncodeLength.andDpIndLong (dp : Byte) : EncodeLength.Statement (.andDpIndLong dp) := by
  intro w; change _ = opcodeLength w 0x27#8; rfl

theorem EncodeLength.plp : EncodeLength.Statement .plp := by
  intro w; change _ = opcodeLength w 0x28#8; rfl

theorem EncodeLength.andImm (imm : Word) : EncodeLength.Statement (.andImm imm) := by
  rintro ⟨_ | _, _ | _⟩ <;> (change _ = opcodeLength _ 0x29#8; rfl)

theorem EncodeLength.rolA : EncodeLength.Statement .rolA := by
  intro w; change _ = opcodeLength w 0x2A#8; rfl

theorem EncodeLength.pld : EncodeLength.Statement .pld := by
  intro w; change _ = opcodeLength w 0x2B#8; rfl

theorem EncodeLength.bitAbs (addr : Word) : EncodeLength.Statement (.bitAbs addr) := by
  intro w; change _ = opcodeLength w 0x2C#8; rfl

theorem EncodeLength.andAbs (addr : Word) : EncodeLength.Statement (.andAbs addr) := by
  intro w; change _ = opcodeLength w 0x2D#8; rfl

theorem EncodeLength.rolAbs (addr : Word) : EncodeLength.Statement (.rolAbs addr) := by
  intro w; change _ = opcodeLength w 0x2E#8; rfl

theorem EncodeLength.andLong (addr : Addr) : EncodeLength.Statement (.andLong addr) := by
  intro w; change _ = opcodeLength w 0x2F#8; rfl

theorem EncodeLength.bmi (disp : Byte) : EncodeLength.Statement (.bmi disp) := by
  intro w; change _ = opcodeLength w 0x30#8; rfl

theorem EncodeLength.andDpIndY (dp : Byte) : EncodeLength.Statement (.andDpIndY dp) := by
  intro w; change _ = opcodeLength w 0x31#8; rfl

theorem EncodeLength.andDpInd (dp : Byte) : EncodeLength.Statement (.andDpInd dp) := by
  intro w; change _ = opcodeLength w 0x32#8; rfl

theorem EncodeLength.andSrIndY (sr : Byte) : EncodeLength.Statement (.andSrIndY sr) := by
  intro w; change _ = opcodeLength w 0x33#8; rfl

theorem EncodeLength.bitDpX (dp : Byte) : EncodeLength.Statement (.bitDpX dp) := by
  intro w; change _ = opcodeLength w 0x34#8; rfl

theorem EncodeLength.andDpX (dp : Byte) : EncodeLength.Statement (.andDpX dp) := by
  intro w; change _ = opcodeLength w 0x35#8; rfl

theorem EncodeLength.rolDpX (dp : Byte) : EncodeLength.Statement (.rolDpX dp) := by
  intro w; change _ = opcodeLength w 0x36#8; rfl

theorem EncodeLength.andDpIndLongY (dp : Byte) : EncodeLength.Statement (.andDpIndLongY dp) := by
  intro w; change _ = opcodeLength w 0x37#8; rfl

theorem EncodeLength.sec : EncodeLength.Statement .sec := by
  intro w; change _ = opcodeLength w 0x38#8; rfl

theorem EncodeLength.andAbsY (addr : Word) : EncodeLength.Statement (.andAbsY addr) := by
  intro w; change _ = opcodeLength w 0x39#8; rfl

theorem EncodeLength.decA : EncodeLength.Statement .decA := by
  intro w; change _ = opcodeLength w 0x3A#8; rfl

theorem EncodeLength.tsc : EncodeLength.Statement .tsc := by
  intro w; change _ = opcodeLength w 0x3B#8; rfl

theorem EncodeLength.bitAbsX (addr : Word) : EncodeLength.Statement (.bitAbsX addr) := by
  intro w; change _ = opcodeLength w 0x3C#8; rfl

theorem EncodeLength.andAbsX (addr : Word) : EncodeLength.Statement (.andAbsX addr) := by
  intro w; change _ = opcodeLength w 0x3D#8; rfl

theorem EncodeLength.rolAbsX (addr : Word) : EncodeLength.Statement (.rolAbsX addr) := by
  intro w; change _ = opcodeLength w 0x3E#8; rfl

theorem EncodeLength.andLongX (addr : Addr) : EncodeLength.Statement (.andLongX addr) := by
  intro w; change _ = opcodeLength w 0x3F#8; rfl

theorem EncodeLength.rti : EncodeLength.Statement .rti := by
  intro w; change _ = opcodeLength w 0x40#8; rfl

theorem EncodeLength.eorDpXInd (dp : Byte) : EncodeLength.Statement (.eorDpXInd dp) := by
  intro w; change _ = opcodeLength w 0x41#8; rfl

theorem EncodeLength.wdm (ignored : Byte) : EncodeLength.Statement (.wdm ignored) := by
  intro w; change _ = opcodeLength w 0x42#8; rfl

theorem EncodeLength.eorSr (sr : Byte) : EncodeLength.Statement (.eorSr sr) := by
  intro w; change _ = opcodeLength w 0x43#8; rfl

theorem EncodeLength.mvp (bank1 : Byte) (bank2 : Byte) : EncodeLength.Statement (.mvp bank1 bank2) := by
  intro w; change _ = opcodeLength w 0x44#8; rfl

theorem EncodeLength.eorDp (dp : Byte) : EncodeLength.Statement (.eorDp dp) := by
  intro w; change _ = opcodeLength w 0x45#8; rfl

theorem EncodeLength.lsrDp (dp : Byte) : EncodeLength.Statement (.lsrDp dp) := by
  intro w; change _ = opcodeLength w 0x46#8; rfl

theorem EncodeLength.eorDpIndLong (dp : Byte) : EncodeLength.Statement (.eorDpIndLong dp) := by
  intro w; change _ = opcodeLength w 0x47#8; rfl

theorem EncodeLength.pha : EncodeLength.Statement .pha := by
  intro w; change _ = opcodeLength w 0x48#8; rfl

theorem EncodeLength.eorImm (imm : Word) : EncodeLength.Statement (.eorImm imm) := by
  rintro ⟨_ | _, _ | _⟩ <;> (change _ = opcodeLength _ 0x49#8; rfl)

theorem EncodeLength.lsrA : EncodeLength.Statement .lsrA := by
  intro w; change _ = opcodeLength w 0x4A#8; rfl

theorem EncodeLength.phk : EncodeLength.Statement .phk := by
  intro w; change _ = opcodeLength w 0x4B#8; rfl

theorem EncodeLength.jmpAbs (addr : Word) : EncodeLength.Statement (.jmpAbs addr) := by
  intro w; change _ = opcodeLength w 0x4C#8; rfl

theorem EncodeLength.eorAbs (addr : Word) : EncodeLength.Statement (.eorAbs addr) := by
  intro w; change _ = opcodeLength w 0x4D#8; rfl

theorem EncodeLength.lsrAbs (addr : Word) : EncodeLength.Statement (.lsrAbs addr) := by
  intro w; change _ = opcodeLength w 0x4E#8; rfl

theorem EncodeLength.eorLong (addr : Addr) : EncodeLength.Statement (.eorLong addr) := by
  intro w; change _ = opcodeLength w 0x4F#8; rfl

theorem EncodeLength.bvc (disp : Byte) : EncodeLength.Statement (.bvc disp) := by
  intro w; change _ = opcodeLength w 0x50#8; rfl

theorem EncodeLength.eorDpIndY (dp : Byte) : EncodeLength.Statement (.eorDpIndY dp) := by
  intro w; change _ = opcodeLength w 0x51#8; rfl

theorem EncodeLength.eorDpInd (dp : Byte) : EncodeLength.Statement (.eorDpInd dp) := by
  intro w; change _ = opcodeLength w 0x52#8; rfl

theorem EncodeLength.eorSrIndY (sr : Byte) : EncodeLength.Statement (.eorSrIndY sr) := by
  intro w; change _ = opcodeLength w 0x53#8; rfl

theorem EncodeLength.mvn (bank1 : Byte) (bank2 : Byte) : EncodeLength.Statement (.mvn bank1 bank2) := by
  intro w; change _ = opcodeLength w 0x54#8; rfl

theorem EncodeLength.eorDpX (dp : Byte) : EncodeLength.Statement (.eorDpX dp) := by
  intro w; change _ = opcodeLength w 0x55#8; rfl

theorem EncodeLength.lsrDpX (dp : Byte) : EncodeLength.Statement (.lsrDpX dp) := by
  intro w; change _ = opcodeLength w 0x56#8; rfl

theorem EncodeLength.eorDpIndLongY (dp : Byte) : EncodeLength.Statement (.eorDpIndLongY dp) := by
  intro w; change _ = opcodeLength w 0x57#8; rfl

theorem EncodeLength.cli : EncodeLength.Statement .cli := by
  intro w; change _ = opcodeLength w 0x58#8; rfl

theorem EncodeLength.eorAbsY (addr : Word) : EncodeLength.Statement (.eorAbsY addr) := by
  intro w; change _ = opcodeLength w 0x59#8; rfl

theorem EncodeLength.phy : EncodeLength.Statement .phy := by
  intro w; change _ = opcodeLength w 0x5A#8; rfl

theorem EncodeLength.tcd : EncodeLength.Statement .tcd := by
  intro w; change _ = opcodeLength w 0x5B#8; rfl

theorem EncodeLength.jmpLong (addr : Addr) : EncodeLength.Statement (.jmpLong addr) := by
  intro w; change _ = opcodeLength w 0x5C#8; rfl

theorem EncodeLength.eorAbsX (addr : Word) : EncodeLength.Statement (.eorAbsX addr) := by
  intro w; change _ = opcodeLength w 0x5D#8; rfl

theorem EncodeLength.lsrAbsX (addr : Word) : EncodeLength.Statement (.lsrAbsX addr) := by
  intro w; change _ = opcodeLength w 0x5E#8; rfl

theorem EncodeLength.eorLongX (addr : Addr) : EncodeLength.Statement (.eorLongX addr) := by
  intro w; change _ = opcodeLength w 0x5F#8; rfl

theorem EncodeLength.rts : EncodeLength.Statement .rts := by
  intro w; change _ = opcodeLength w 0x60#8; rfl

theorem EncodeLength.adcDpXInd (dp : Byte) : EncodeLength.Statement (.adcDpXInd dp) := by
  intro w; change _ = opcodeLength w 0x61#8; rfl

theorem EncodeLength.per (disp : Word) : EncodeLength.Statement (.per disp) := by
  intro w; change _ = opcodeLength w 0x62#8; rfl

theorem EncodeLength.adcSr (sr : Byte) : EncodeLength.Statement (.adcSr sr) := by
  intro w; change _ = opcodeLength w 0x63#8; rfl

theorem EncodeLength.stzDp (dp : Byte) : EncodeLength.Statement (.stzDp dp) := by
  intro w; change _ = opcodeLength w 0x64#8; rfl

theorem EncodeLength.adcDp (dp : Byte) : EncodeLength.Statement (.adcDp dp) := by
  intro w; change _ = opcodeLength w 0x65#8; rfl

theorem EncodeLength.rorDp (dp : Byte) : EncodeLength.Statement (.rorDp dp) := by
  intro w; change _ = opcodeLength w 0x66#8; rfl

theorem EncodeLength.adcDpIndLong (dp : Byte) : EncodeLength.Statement (.adcDpIndLong dp) := by
  intro w; change _ = opcodeLength w 0x67#8; rfl

theorem EncodeLength.pla : EncodeLength.Statement .pla := by
  intro w; change _ = opcodeLength w 0x68#8; rfl

theorem EncodeLength.adcImm (imm : Word) : EncodeLength.Statement (.adcImm imm) := by
  rintro ⟨_ | _, _ | _⟩ <;> (change _ = opcodeLength _ 0x69#8; rfl)

theorem EncodeLength.rorA : EncodeLength.Statement .rorA := by
  intro w; change _ = opcodeLength w 0x6A#8; rfl

theorem EncodeLength.rtl : EncodeLength.Statement .rtl := by
  intro w; change _ = opcodeLength w 0x6B#8; rfl

theorem EncodeLength.jmpAbsInd (addr : Word) : EncodeLength.Statement (.jmpAbsInd addr) := by
  intro w; change _ = opcodeLength w 0x6C#8; rfl

theorem EncodeLength.adcAbs (addr : Word) : EncodeLength.Statement (.adcAbs addr) := by
  intro w; change _ = opcodeLength w 0x6D#8; rfl

theorem EncodeLength.rorAbs (addr : Word) : EncodeLength.Statement (.rorAbs addr) := by
  intro w; change _ = opcodeLength w 0x6E#8; rfl

theorem EncodeLength.adcLong (addr : Addr) : EncodeLength.Statement (.adcLong addr) := by
  intro w; change _ = opcodeLength w 0x6F#8; rfl

theorem EncodeLength.bvs (disp : Byte) : EncodeLength.Statement (.bvs disp) := by
  intro w; change _ = opcodeLength w 0x70#8; rfl

theorem EncodeLength.adcDpIndY (dp : Byte) : EncodeLength.Statement (.adcDpIndY dp) := by
  intro w; change _ = opcodeLength w 0x71#8; rfl

theorem EncodeLength.adcDpInd (dp : Byte) : EncodeLength.Statement (.adcDpInd dp) := by
  intro w; change _ = opcodeLength w 0x72#8; rfl

theorem EncodeLength.adcSrIndY (sr : Byte) : EncodeLength.Statement (.adcSrIndY sr) := by
  intro w; change _ = opcodeLength w 0x73#8; rfl

theorem EncodeLength.stzDpX (dp : Byte) : EncodeLength.Statement (.stzDpX dp) := by
  intro w; change _ = opcodeLength w 0x74#8; rfl

theorem EncodeLength.adcDpX (dp : Byte) : EncodeLength.Statement (.adcDpX dp) := by
  intro w; change _ = opcodeLength w 0x75#8; rfl

theorem EncodeLength.rorDpX (dp : Byte) : EncodeLength.Statement (.rorDpX dp) := by
  intro w; change _ = opcodeLength w 0x76#8; rfl

theorem EncodeLength.adcDpIndLongY (dp : Byte) : EncodeLength.Statement (.adcDpIndLongY dp) := by
  intro w; change _ = opcodeLength w 0x77#8; rfl

theorem EncodeLength.sei : EncodeLength.Statement .sei := by
  intro w; change _ = opcodeLength w 0x78#8; rfl

theorem EncodeLength.adcAbsY (addr : Word) : EncodeLength.Statement (.adcAbsY addr) := by
  intro w; change _ = opcodeLength w 0x79#8; rfl

theorem EncodeLength.ply : EncodeLength.Statement .ply := by
  intro w; change _ = opcodeLength w 0x7A#8; rfl

theorem EncodeLength.tdc : EncodeLength.Statement .tdc := by
  intro w; change _ = opcodeLength w 0x7B#8; rfl

theorem EncodeLength.jmpAbsXInd (addr : Word) : EncodeLength.Statement (.jmpAbsXInd addr) := by
  intro w; change _ = opcodeLength w 0x7C#8; rfl

theorem EncodeLength.adcAbsX (addr : Word) : EncodeLength.Statement (.adcAbsX addr) := by
  intro w; change _ = opcodeLength w 0x7D#8; rfl

theorem EncodeLength.rorAbsX (addr : Word) : EncodeLength.Statement (.rorAbsX addr) := by
  intro w; change _ = opcodeLength w 0x7E#8; rfl

theorem EncodeLength.adcLongX (addr : Addr) : EncodeLength.Statement (.adcLongX addr) := by
  intro w; change _ = opcodeLength w 0x7F#8; rfl

theorem EncodeLength.bra (disp : Byte) : EncodeLength.Statement (.bra disp) := by
  intro w; change _ = opcodeLength w 0x80#8; rfl

theorem EncodeLength.staDpXInd (dp : Byte) : EncodeLength.Statement (.staDpXInd dp) := by
  intro w; change _ = opcodeLength w 0x81#8; rfl

theorem EncodeLength.brl (disp : Word) : EncodeLength.Statement (.brl disp) := by
  intro w; change _ = opcodeLength w 0x82#8; rfl

theorem EncodeLength.staSr (sr : Byte) : EncodeLength.Statement (.staSr sr) := by
  intro w; change _ = opcodeLength w 0x83#8; rfl

theorem EncodeLength.styDp (dp : Byte) : EncodeLength.Statement (.styDp dp) := by
  intro w; change _ = opcodeLength w 0x84#8; rfl

theorem EncodeLength.staDp (dp : Byte) : EncodeLength.Statement (.staDp dp) := by
  intro w; change _ = opcodeLength w 0x85#8; rfl

theorem EncodeLength.stxDp (dp : Byte) : EncodeLength.Statement (.stxDp dp) := by
  intro w; change _ = opcodeLength w 0x86#8; rfl

theorem EncodeLength.staDpIndLong (dp : Byte) : EncodeLength.Statement (.staDpIndLong dp) := by
  intro w; change _ = opcodeLength w 0x87#8; rfl

theorem EncodeLength.dey : EncodeLength.Statement .dey := by
  intro w; change _ = opcodeLength w 0x88#8; rfl

theorem EncodeLength.bitImm (imm : Word) : EncodeLength.Statement (.bitImm imm) := by
  rintro ⟨_ | _, _ | _⟩ <;> (change _ = opcodeLength _ 0x89#8; rfl)

theorem EncodeLength.txa : EncodeLength.Statement .txa := by
  intro w; change _ = opcodeLength w 0x8A#8; rfl

theorem EncodeLength.phb : EncodeLength.Statement .phb := by
  intro w; change _ = opcodeLength w 0x8B#8; rfl

theorem EncodeLength.styAbs (addr : Word) : EncodeLength.Statement (.styAbs addr) := by
  intro w; change _ = opcodeLength w 0x8C#8; rfl

theorem EncodeLength.staAbs (addr : Word) : EncodeLength.Statement (.staAbs addr) := by
  intro w; change _ = opcodeLength w 0x8D#8; rfl

theorem EncodeLength.stxAbs (addr : Word) : EncodeLength.Statement (.stxAbs addr) := by
  intro w; change _ = opcodeLength w 0x8E#8; rfl

theorem EncodeLength.staLong (addr : Addr) : EncodeLength.Statement (.staLong addr) := by
  intro w; change _ = opcodeLength w 0x8F#8; rfl

theorem EncodeLength.bcc (disp : Byte) : EncodeLength.Statement (.bcc disp) := by
  intro w; change _ = opcodeLength w 0x90#8; rfl

theorem EncodeLength.staDpIndY (dp : Byte) : EncodeLength.Statement (.staDpIndY dp) := by
  intro w; change _ = opcodeLength w 0x91#8; rfl

theorem EncodeLength.staDpInd (dp : Byte) : EncodeLength.Statement (.staDpInd dp) := by
  intro w; change _ = opcodeLength w 0x92#8; rfl

theorem EncodeLength.staSrIndY (sr : Byte) : EncodeLength.Statement (.staSrIndY sr) := by
  intro w; change _ = opcodeLength w 0x93#8; rfl

theorem EncodeLength.styDpX (dp : Byte) : EncodeLength.Statement (.styDpX dp) := by
  intro w; change _ = opcodeLength w 0x94#8; rfl

theorem EncodeLength.staDpX (dp : Byte) : EncodeLength.Statement (.staDpX dp) := by
  intro w; change _ = opcodeLength w 0x95#8; rfl

theorem EncodeLength.stxDpY (dp : Byte) : EncodeLength.Statement (.stxDpY dp) := by
  intro w; change _ = opcodeLength w 0x96#8; rfl

theorem EncodeLength.staDpIndLongY (dp : Byte) : EncodeLength.Statement (.staDpIndLongY dp) := by
  intro w; change _ = opcodeLength w 0x97#8; rfl

theorem EncodeLength.tya : EncodeLength.Statement .tya := by
  intro w; change _ = opcodeLength w 0x98#8; rfl

theorem EncodeLength.staAbsY (addr : Word) : EncodeLength.Statement (.staAbsY addr) := by
  intro w; change _ = opcodeLength w 0x99#8; rfl

theorem EncodeLength.txs : EncodeLength.Statement .txs := by
  intro w; change _ = opcodeLength w 0x9A#8; rfl

theorem EncodeLength.txy : EncodeLength.Statement .txy := by
  intro w; change _ = opcodeLength w 0x9B#8; rfl

theorem EncodeLength.stzAbs (addr : Word) : EncodeLength.Statement (.stzAbs addr) := by
  intro w; change _ = opcodeLength w 0x9C#8; rfl

theorem EncodeLength.staAbsX (addr : Word) : EncodeLength.Statement (.staAbsX addr) := by
  intro w; change _ = opcodeLength w 0x9D#8; rfl

theorem EncodeLength.stzAbsX (addr : Word) : EncodeLength.Statement (.stzAbsX addr) := by
  intro w; change _ = opcodeLength w 0x9E#8; rfl

theorem EncodeLength.staLongX (addr : Addr) : EncodeLength.Statement (.staLongX addr) := by
  intro w; change _ = opcodeLength w 0x9F#8; rfl

theorem EncodeLength.ldyImm (imm : Word) : EncodeLength.Statement (.ldyImm imm) := by
  rintro ⟨_ | _, _ | _⟩ <;> (change _ = opcodeLength _ 0xA0#8; rfl)

theorem EncodeLength.ldaDpXInd (dp : Byte) : EncodeLength.Statement (.ldaDpXInd dp) := by
  intro w; change _ = opcodeLength w 0xA1#8; rfl

theorem EncodeLength.ldxImm (imm : Word) : EncodeLength.Statement (.ldxImm imm) := by
  rintro ⟨_ | _, _ | _⟩ <;> (change _ = opcodeLength _ 0xA2#8; rfl)

theorem EncodeLength.ldaSr (sr : Byte) : EncodeLength.Statement (.ldaSr sr) := by
  intro w; change _ = opcodeLength w 0xA3#8; rfl

theorem EncodeLength.ldyDp (dp : Byte) : EncodeLength.Statement (.ldyDp dp) := by
  intro w; change _ = opcodeLength w 0xA4#8; rfl

theorem EncodeLength.ldaDp (dp : Byte) : EncodeLength.Statement (.ldaDp dp) := by
  intro w; change _ = opcodeLength w 0xA5#8; rfl

theorem EncodeLength.ldxDp (dp : Byte) : EncodeLength.Statement (.ldxDp dp) := by
  intro w; change _ = opcodeLength w 0xA6#8; rfl

theorem EncodeLength.ldaDpIndLong (dp : Byte) : EncodeLength.Statement (.ldaDpIndLong dp) := by
  intro w; change _ = opcodeLength w 0xA7#8; rfl

theorem EncodeLength.tay : EncodeLength.Statement .tay := by
  intro w; change _ = opcodeLength w 0xA8#8; rfl

theorem EncodeLength.ldaImm (imm : Word) : EncodeLength.Statement (.ldaImm imm) := by
  rintro ⟨_ | _, _ | _⟩ <;> (change _ = opcodeLength _ 0xA9#8; rfl)

theorem EncodeLength.tax : EncodeLength.Statement .tax := by
  intro w; change _ = opcodeLength w 0xAA#8; rfl

theorem EncodeLength.plb : EncodeLength.Statement .plb := by
  intro w; change _ = opcodeLength w 0xAB#8; rfl

theorem EncodeLength.ldyAbs (addr : Word) : EncodeLength.Statement (.ldyAbs addr) := by
  intro w; change _ = opcodeLength w 0xAC#8; rfl

theorem EncodeLength.ldaAbs (addr : Word) : EncodeLength.Statement (.ldaAbs addr) := by
  intro w; change _ = opcodeLength w 0xAD#8; rfl

theorem EncodeLength.ldxAbs (addr : Word) : EncodeLength.Statement (.ldxAbs addr) := by
  intro w; change _ = opcodeLength w 0xAE#8; rfl

theorem EncodeLength.ldaLong (addr : Addr) : EncodeLength.Statement (.ldaLong addr) := by
  intro w; change _ = opcodeLength w 0xAF#8; rfl

theorem EncodeLength.bcs (disp : Byte) : EncodeLength.Statement (.bcs disp) := by
  intro w; change _ = opcodeLength w 0xB0#8; rfl

theorem EncodeLength.ldaDpIndY (dp : Byte) : EncodeLength.Statement (.ldaDpIndY dp) := by
  intro w; change _ = opcodeLength w 0xB1#8; rfl

theorem EncodeLength.ldaDpInd (dp : Byte) : EncodeLength.Statement (.ldaDpInd dp) := by
  intro w; change _ = opcodeLength w 0xB2#8; rfl

theorem EncodeLength.ldaSrIndY (sr : Byte) : EncodeLength.Statement (.ldaSrIndY sr) := by
  intro w; change _ = opcodeLength w 0xB3#8; rfl

theorem EncodeLength.ldyDpX (dp : Byte) : EncodeLength.Statement (.ldyDpX dp) := by
  intro w; change _ = opcodeLength w 0xB4#8; rfl

theorem EncodeLength.ldaDpX (dp : Byte) : EncodeLength.Statement (.ldaDpX dp) := by
  intro w; change _ = opcodeLength w 0xB5#8; rfl

theorem EncodeLength.ldxDpX (dp : Byte) : EncodeLength.Statement (.ldxDpX dp) := by
  intro w; change _ = opcodeLength w 0xB6#8; rfl

theorem EncodeLength.ldaDpIndLongY (dp : Byte) : EncodeLength.Statement (.ldaDpIndLongY dp) := by
  intro w; change _ = opcodeLength w 0xB7#8; rfl

theorem EncodeLength.clv : EncodeLength.Statement .clv := by
  intro w; change _ = opcodeLength w 0xB8#8; rfl

theorem EncodeLength.ldaAbsY (addr : Word) : EncodeLength.Statement (.ldaAbsY addr) := by
  intro w; change _ = opcodeLength w 0xB9#8; rfl

theorem EncodeLength.tsx : EncodeLength.Statement .tsx := by
  intro w; change _ = opcodeLength w 0xBA#8; rfl

theorem EncodeLength.tyx : EncodeLength.Statement .tyx := by
  intro w; change _ = opcodeLength w 0xBB#8; rfl

theorem EncodeLength.ldyAbsX (addr : Word) : EncodeLength.Statement (.ldyAbsX addr) := by
  intro w; change _ = opcodeLength w 0xBC#8; rfl

theorem EncodeLength.ldaAbsX (addr : Word) : EncodeLength.Statement (.ldaAbsX addr) := by
  intro w; change _ = opcodeLength w 0xBD#8; rfl

theorem EncodeLength.ldxAbsX (addr : Word) : EncodeLength.Statement (.ldxAbsX addr) := by
  intro w; change _ = opcodeLength w 0xBE#8; rfl

theorem EncodeLength.ldaLongX (addr : Addr) : EncodeLength.Statement (.ldaLongX addr) := by
  intro w; change _ = opcodeLength w 0xBF#8; rfl

theorem EncodeLength.cpyImm (imm : Word) : EncodeLength.Statement (.cpyImm imm) := by
  rintro ⟨_ | _, _ | _⟩ <;> (change _ = opcodeLength _ 0xC0#8; rfl)

theorem EncodeLength.cmpDpXInd (dp : Byte) : EncodeLength.Statement (.cmpDpXInd dp) := by
  intro w; change _ = opcodeLength w 0xC1#8; rfl

theorem EncodeLength.rep (k : Byte) : EncodeLength.Statement (.rep k) := by
  intro w; change _ = opcodeLength w 0xC2#8; rfl

theorem EncodeLength.cmpSr (sr : Byte) : EncodeLength.Statement (.cmpSr sr) := by
  intro w; change _ = opcodeLength w 0xC3#8; rfl

theorem EncodeLength.cpyDp (dp : Byte) : EncodeLength.Statement (.cpyDp dp) := by
  intro w; change _ = opcodeLength w 0xC4#8; rfl

theorem EncodeLength.cmpDp (dp : Byte) : EncodeLength.Statement (.cmpDp dp) := by
  intro w; change _ = opcodeLength w 0xC5#8; rfl

theorem EncodeLength.decDp (dp : Byte) : EncodeLength.Statement (.decDp dp) := by
  intro w; change _ = opcodeLength w 0xC6#8; rfl

theorem EncodeLength.cmpDpIndLong (dp : Byte) : EncodeLength.Statement (.cmpDpIndLong dp) := by
  intro w; change _ = opcodeLength w 0xC7#8; rfl

theorem EncodeLength.iny : EncodeLength.Statement .iny := by
  intro w; change _ = opcodeLength w 0xC8#8; rfl

theorem EncodeLength.cmpImm (imm : Word) : EncodeLength.Statement (.cmpImm imm) := by
  rintro ⟨_ | _, _ | _⟩ <;> (change _ = opcodeLength _ 0xC9#8; rfl)

theorem EncodeLength.dex : EncodeLength.Statement .dex := by
  intro w; change _ = opcodeLength w 0xCA#8; rfl

theorem EncodeLength.wai : EncodeLength.Statement .wai := by
  intro w; change _ = opcodeLength w 0xCB#8; rfl

theorem EncodeLength.cpyAbs (addr : Word) : EncodeLength.Statement (.cpyAbs addr) := by
  intro w; change _ = opcodeLength w 0xCC#8; rfl

theorem EncodeLength.cmpAbs (addr : Word) : EncodeLength.Statement (.cmpAbs addr) := by
  intro w; change _ = opcodeLength w 0xCD#8; rfl

theorem EncodeLength.decAbs (addr : Word) : EncodeLength.Statement (.decAbs addr) := by
  intro w; change _ = opcodeLength w 0xCE#8; rfl

theorem EncodeLength.cmpLong (addr : Addr) : EncodeLength.Statement (.cmpLong addr) := by
  intro w; change _ = opcodeLength w 0xCF#8; rfl

theorem EncodeLength.bne (disp : Byte) : EncodeLength.Statement (.bne disp) := by
  intro w; change _ = opcodeLength w 0xD0#8; rfl

theorem EncodeLength.cmpDpIndY (dp : Byte) : EncodeLength.Statement (.cmpDpIndY dp) := by
  intro w; change _ = opcodeLength w 0xD1#8; rfl

theorem EncodeLength.cmpDpInd (dp : Byte) : EncodeLength.Statement (.cmpDpInd dp) := by
  intro w; change _ = opcodeLength w 0xD2#8; rfl

theorem EncodeLength.cmpSrIndY (sr : Byte) : EncodeLength.Statement (.cmpSrIndY sr) := by
  intro w; change _ = opcodeLength w 0xD3#8; rfl

theorem EncodeLength.pei (dp : Byte) : EncodeLength.Statement (.pei dp) := by
  intro w; change _ = opcodeLength w 0xD4#8; rfl

theorem EncodeLength.cmpDpX (dp : Byte) : EncodeLength.Statement (.cmpDpX dp) := by
  intro w; change _ = opcodeLength w 0xD5#8; rfl

theorem EncodeLength.decDpX (dp : Byte) : EncodeLength.Statement (.decDpX dp) := by
  intro w; change _ = opcodeLength w 0xD6#8; rfl

theorem EncodeLength.cmpDpIndLongY (dp : Byte) : EncodeLength.Statement (.cmpDpIndLongY dp) := by
  intro w; change _ = opcodeLength w 0xD7#8; rfl

theorem EncodeLength.cld : EncodeLength.Statement .cld := by
  intro w; change _ = opcodeLength w 0xD8#8; rfl

theorem EncodeLength.cmpAbsY (addr : Word) : EncodeLength.Statement (.cmpAbsY addr) := by
  intro w; change _ = opcodeLength w 0xD9#8; rfl

theorem EncodeLength.phx : EncodeLength.Statement .phx := by
  intro w; change _ = opcodeLength w 0xDA#8; rfl

theorem EncodeLength.stp : EncodeLength.Statement .stp := by
  intro w; change _ = opcodeLength w 0xDB#8; rfl

theorem EncodeLength.jmpAbsIndLong (addr : Word) : EncodeLength.Statement (.jmpAbsIndLong addr) := by
  intro w; change _ = opcodeLength w 0xDC#8; rfl

theorem EncodeLength.cmpAbsX (addr : Word) : EncodeLength.Statement (.cmpAbsX addr) := by
  intro w; change _ = opcodeLength w 0xDD#8; rfl

theorem EncodeLength.decAbsX (addr : Word) : EncodeLength.Statement (.decAbsX addr) := by
  intro w; change _ = opcodeLength w 0xDE#8; rfl

theorem EncodeLength.cmpLongX (addr : Addr) : EncodeLength.Statement (.cmpLongX addr) := by
  intro w; change _ = opcodeLength w 0xDF#8; rfl

theorem EncodeLength.cpxImm (imm : Word) : EncodeLength.Statement (.cpxImm imm) := by
  rintro ⟨_ | _, _ | _⟩ <;> (change _ = opcodeLength _ 0xE0#8; rfl)

theorem EncodeLength.sbcDpXInd (dp : Byte) : EncodeLength.Statement (.sbcDpXInd dp) := by
  intro w; change _ = opcodeLength w 0xE1#8; rfl

theorem EncodeLength.sep (k : Byte) : EncodeLength.Statement (.sep k) := by
  intro w; change _ = opcodeLength w 0xE2#8; rfl

theorem EncodeLength.sbcSr (sr : Byte) : EncodeLength.Statement (.sbcSr sr) := by
  intro w; change _ = opcodeLength w 0xE3#8; rfl

theorem EncodeLength.cpxDp (dp : Byte) : EncodeLength.Statement (.cpxDp dp) := by
  intro w; change _ = opcodeLength w 0xE4#8; rfl

theorem EncodeLength.sbcDp (dp : Byte) : EncodeLength.Statement (.sbcDp dp) := by
  intro w; change _ = opcodeLength w 0xE5#8; rfl

theorem EncodeLength.incDp (dp : Byte) : EncodeLength.Statement (.incDp dp) := by
  intro w; change _ = opcodeLength w 0xE6#8; rfl

theorem EncodeLength.sbcDpIndLong (dp : Byte) : EncodeLength.Statement (.sbcDpIndLong dp) := by
  intro w; change _ = opcodeLength w 0xE7#8; rfl

theorem EncodeLength.inx : EncodeLength.Statement .inx := by
  intro w; change _ = opcodeLength w 0xE8#8; rfl

theorem EncodeLength.sbcImm (imm : Word) : EncodeLength.Statement (.sbcImm imm) := by
  rintro ⟨_ | _, _ | _⟩ <;> (change _ = opcodeLength _ 0xE9#8; rfl)

theorem EncodeLength.nop : EncodeLength.Statement .nop := by
  intro w; change _ = opcodeLength w 0xEA#8; rfl

theorem EncodeLength.xba : EncodeLength.Statement .xba := by
  intro w; change _ = opcodeLength w 0xEB#8; rfl

theorem EncodeLength.cpxAbs (addr : Word) : EncodeLength.Statement (.cpxAbs addr) := by
  intro w; change _ = opcodeLength w 0xEC#8; rfl

theorem EncodeLength.sbcAbs (addr : Word) : EncodeLength.Statement (.sbcAbs addr) := by
  intro w; change _ = opcodeLength w 0xED#8; rfl

theorem EncodeLength.incAbs (addr : Word) : EncodeLength.Statement (.incAbs addr) := by
  intro w; change _ = opcodeLength w 0xEE#8; rfl

theorem EncodeLength.sbcLong (addr : Addr) : EncodeLength.Statement (.sbcLong addr) := by
  intro w; change _ = opcodeLength w 0xEF#8; rfl

theorem EncodeLength.beq (disp : Byte) : EncodeLength.Statement (.beq disp) := by
  intro w; change _ = opcodeLength w 0xF0#8; rfl

theorem EncodeLength.sbcDpIndY (dp : Byte) : EncodeLength.Statement (.sbcDpIndY dp) := by
  intro w; change _ = opcodeLength w 0xF1#8; rfl

theorem EncodeLength.sbcDpInd (dp : Byte) : EncodeLength.Statement (.sbcDpInd dp) := by
  intro w; change _ = opcodeLength w 0xF2#8; rfl

theorem EncodeLength.sbcSrIndY (sr : Byte) : EncodeLength.Statement (.sbcSrIndY sr) := by
  intro w; change _ = opcodeLength w 0xF3#8; rfl

theorem EncodeLength.pea (addr : Word) : EncodeLength.Statement (.pea addr) := by
  intro w; change _ = opcodeLength w 0xF4#8; rfl

theorem EncodeLength.sbcDpX (dp : Byte) : EncodeLength.Statement (.sbcDpX dp) := by
  intro w; change _ = opcodeLength w 0xF5#8; rfl

theorem EncodeLength.incDpX (dp : Byte) : EncodeLength.Statement (.incDpX dp) := by
  intro w; change _ = opcodeLength w 0xF6#8; rfl

theorem EncodeLength.sbcDpIndLongY (dp : Byte) : EncodeLength.Statement (.sbcDpIndLongY dp) := by
  intro w; change _ = opcodeLength w 0xF7#8; rfl

theorem EncodeLength.sed : EncodeLength.Statement .sed := by
  intro w; change _ = opcodeLength w 0xF8#8; rfl

theorem EncodeLength.sbcAbsY (addr : Word) : EncodeLength.Statement (.sbcAbsY addr) := by
  intro w; change _ = opcodeLength w 0xF9#8; rfl

theorem EncodeLength.plx : EncodeLength.Statement .plx := by
  intro w; change _ = opcodeLength w 0xFA#8; rfl

theorem EncodeLength.xce : EncodeLength.Statement .xce := by
  intro w; change _ = opcodeLength w 0xFB#8; rfl

theorem EncodeLength.jsrAbsXInd (addr : Word) : EncodeLength.Statement (.jsrAbsXInd addr) := by
  intro w; change _ = opcodeLength w 0xFC#8; rfl

theorem EncodeLength.sbcAbsX (addr : Word) : EncodeLength.Statement (.sbcAbsX addr) := by
  intro w; change _ = opcodeLength w 0xFD#8; rfl

theorem EncodeLength.incAbsX (addr : Word) : EncodeLength.Statement (.incAbsX addr) := by
  intro w; change _ = opcodeLength w 0xFE#8; rfl

theorem EncodeLength.sbcLongX (addr : Addr) : EncodeLength.Statement (.sbcLongX addr) := by
  intro w; change _ = opcodeLength w 0xFF#8; rfl

end Sys2Proof.Laws
end

