-- ==== Sys2Proof/Tests/Slice0.lean ====
section
/-! SUPPORT. The row's own tests: what `wellFormed` refuses, the decoding of one written-out word for every opcode, single
steps whose results the spec states, and for each statement with hypotheses a state and operands that meet them. -/

namespace Sys2Proof.Tests

open Sys2Proof.Machine Sys2Proof.Claims

/-! Helpers. -/

/-- The start state of the vectors of spec file 95: PC = 0x8000, S = 0x01FF, or 0x1FFF in native mode. -/
def start (v : Variant) (e : Bool) (p : Byte) : State :=
  { State.reset with cfg := Params.defaults v, e := e, p := p, pc := 0x8000#16, sp := if e then 0x01FF#16 else 0x1FFF#16 }

/-- V6502 at the start. -/
def s6502 : State := start .v6502 true 0x30#8

/-- V65C02 at the start. -/
def sC02 : State := start .v65C02 true 0x30#8

/-- V65816 in emulation mode at the start. -/
def sEmu : State := start .v65816 true 0x30#8

/-- V65816 in native mode with 16-bit registers. -/
def sNat : State := start .v65816 false 0x00#8

/-- A state with bytes put in memory. -/
def withBytes (s : State) (l : List (Nat × Byte)) : State :=
  { s with mem := l.foldl (fun m c => Memory.write m c.1 c.2) s.mem }

/-- A state whose I/O regions are one range. -/
def withIo (s : State) (first last : Nat) : State := { s with cfg := { s.cfg with ioRegions := [⟨first, last⟩] } }

/-- The outcome is a next state with a property. -/
def nextIs (r : Result) (p : State → Bool) : Bool :=
  match r with
  | .next t => p t
  | .fault _ => false
  | .refused _ => false

/-- The outcome is a refusal. -/
def refusedAs (r : Result) (why : Refusal) : Bool :=
  match r with
  | .next _ => false
  | .fault _ => false
  | .refused w => w == why

theorem exists_of_nextIs {r : Result} {p : State → Bool} (h : nextIs r p = true) : ∃ t, r = .next t ∧ p t = true := by
  cases r with
  | next t => exact ⟨t, rfl, h⟩
  | fault f => cases h
  | refused f => cases h

/-! What `wellFormed` refuses: an instruction the variant lacks (R97), and a constant too wide for its width (R93). -/

theorem test_wf_refuses_65816_on_65C02 : Instr.xce.wellFormed .v65C02 ⟨.w8, .w8⟩ = false := by decide

theorem test_wf_refuses_65C02_on_6502 : (Instr.stzDp 0x70#8).wellFormed .v6502 ⟨.w8, .w8⟩ = false := by decide

theorem test_wf_refuses_wide_constant_m : (Instr.ldaImm 0x0100#16).wellFormed .v65816 ⟨.w8, .w16⟩ = false := by decide

theorem test_wf_refuses_wide_constant_x : (Instr.ldxImm 0x0100#16).wellFormed .v65816 ⟨.w16, .w8⟩ = false := by decide

theorem test_wf_accepts : (Instr.ldaImm 0x00FF#16).wellFormed .v6502 ⟨.w8, .w8⟩ = true ∧
    (Instr.ldxImm 0xFFFF#16).wellFormed .v65816 ⟨.w8, .w16⟩ = true := by decide

/-! Decoding: for each opcode of R110 its bytes, written out, with operand bytes 34, 12, 56 in that order; the data width is 8
and the index width 16, so that IMM_M constants have one byte and IMM_X constants two (R93). -/

/-- Whether bytes decode on V65816 to an instruction and nothing is left. -/
def reads (bytes : List Byte) (i : Instr) : Bool :=
  match decode .v65816 ⟨.w8, .w16⟩ bytes with
  | .ok (j, rest) => j == i && rest.isEmpty
  | .error _ => false

theorem test_decode_row_0 :
    (reads [0x00#8, 0x34#8] (.brk 0x34#8) && reads [0x01#8, 0x34#8] (.oraDpXInd 0x34#8) &&
      reads [0x02#8, 0x34#8] (.cop 0x34#8) && reads [0x03#8, 0x34#8] (.oraSr 0x34#8) &&
      reads [0x04#8, 0x34#8] (.tsbDp 0x34#8) && reads [0x05#8, 0x34#8] (.oraDp 0x34#8) &&
      reads [0x06#8, 0x34#8] (.aslDp 0x34#8) && reads [0x07#8, 0x34#8] (.oraDpIndLong 0x34#8) &&
      reads [0x08#8] .php && reads [0x09#8, 0x34#8] (.oraImm 0x0034#16) &&
      reads [0x0A#8] .aslA && reads [0x0B#8] .phd &&
      reads [0x0C#8, 0x34#8, 0x12#8] (.tsbAbs 0x1234#16) && reads [0x0D#8, 0x34#8, 0x12#8] (.oraAbs 0x1234#16) &&
      reads [0x0E#8, 0x34#8, 0x12#8] (.aslAbs 0x1234#16) && reads [0x0F#8, 0x34#8, 0x12#8, 0x56#8] (.oraLong 0x561234#24)) = true := by
  decide

theorem test_decode_row_1 :
    (reads [0x10#8, 0x34#8] (.bpl 0x34#8) && reads [0x11#8, 0x34#8] (.oraDpIndY 0x34#8) &&
      reads [0x12#8, 0x34#8] (.oraDpInd 0x34#8) && reads [0x13#8, 0x34#8] (.oraSrIndY 0x34#8) &&
      reads [0x14#8, 0x34#8] (.trbDp 0x34#8) && reads [0x15#8, 0x34#8] (.oraDpX 0x34#8) &&
      reads [0x16#8, 0x34#8] (.aslDpX 0x34#8) && reads [0x17#8, 0x34#8] (.oraDpIndLongY 0x34#8) &&
      reads [0x18#8] .clc && reads [0x19#8, 0x34#8, 0x12#8] (.oraAbsY 0x1234#16) &&
      reads [0x1A#8] .incA && reads [0x1B#8] .tcs &&
      reads [0x1C#8, 0x34#8, 0x12#8] (.trbAbs 0x1234#16) && reads [0x1D#8, 0x34#8, 0x12#8] (.oraAbsX 0x1234#16) &&
      reads [0x1E#8, 0x34#8, 0x12#8] (.aslAbsX 0x1234#16) && reads [0x1F#8, 0x34#8, 0x12#8, 0x56#8] (.oraLongX 0x561234#24)) = true := by
  decide

theorem test_decode_row_2 :
    (reads [0x20#8, 0x34#8, 0x12#8] (.jsrAbs 0x1234#16) && reads [0x21#8, 0x34#8] (.andDpXInd 0x34#8) &&
      reads [0x22#8, 0x34#8, 0x12#8, 0x56#8] (.jsl 0x561234#24) && reads [0x23#8, 0x34#8] (.andSr 0x34#8) &&
      reads [0x24#8, 0x34#8] (.bitDp 0x34#8) && reads [0x25#8, 0x34#8] (.andDp 0x34#8) &&
      reads [0x26#8, 0x34#8] (.rolDp 0x34#8) && reads [0x27#8, 0x34#8] (.andDpIndLong 0x34#8) &&
      reads [0x28#8] .plp && reads [0x29#8, 0x34#8] (.andImm 0x0034#16) &&
      reads [0x2A#8] .rolA && reads [0x2B#8] .pld &&
      reads [0x2C#8, 0x34#8, 0x12#8] (.bitAbs 0x1234#16) && reads [0x2D#8, 0x34#8, 0x12#8] (.andAbs 0x1234#16) &&
      reads [0x2E#8, 0x34#8, 0x12#8] (.rolAbs 0x1234#16) && reads [0x2F#8, 0x34#8, 0x12#8, 0x56#8] (.andLong 0x561234#24)) = true := by
  decide

theorem test_decode_row_3 :
    (reads [0x30#8, 0x34#8] (.bmi 0x34#8) && reads [0x31#8, 0x34#8] (.andDpIndY 0x34#8) &&
      reads [0x32#8, 0x34#8] (.andDpInd 0x34#8) && reads [0x33#8, 0x34#8] (.andSrIndY 0x34#8) &&
      reads [0x34#8, 0x34#8] (.bitDpX 0x34#8) && reads [0x35#8, 0x34#8] (.andDpX 0x34#8) &&
      reads [0x36#8, 0x34#8] (.rolDpX 0x34#8) && reads [0x37#8, 0x34#8] (.andDpIndLongY 0x34#8) &&
      reads [0x38#8] .sec && reads [0x39#8, 0x34#8, 0x12#8] (.andAbsY 0x1234#16) &&
      reads [0x3A#8] .decA && reads [0x3B#8] .tsc &&
      reads [0x3C#8, 0x34#8, 0x12#8] (.bitAbsX 0x1234#16) && reads [0x3D#8, 0x34#8, 0x12#8] (.andAbsX 0x1234#16) &&
      reads [0x3E#8, 0x34#8, 0x12#8] (.rolAbsX 0x1234#16) && reads [0x3F#8, 0x34#8, 0x12#8, 0x56#8] (.andLongX 0x561234#24)) = true := by
  decide

theorem test_decode_row_4 :
    (reads [0x40#8] .rti && reads [0x41#8, 0x34#8] (.eorDpXInd 0x34#8) &&
      reads [0x42#8, 0x34#8] (.wdm 0x34#8) && reads [0x43#8, 0x34#8] (.eorSr 0x34#8) &&
      reads [0x44#8, 0x34#8, 0x12#8] (.mvp 0x34#8 0x12#8) && reads [0x45#8, 0x34#8] (.eorDp 0x34#8) &&
      reads [0x46#8, 0x34#8] (.lsrDp 0x34#8) && reads [0x47#8, 0x34#8] (.eorDpIndLong 0x34#8) &&
      reads [0x48#8] .pha && reads [0x49#8, 0x34#8] (.eorImm 0x0034#16) &&
      reads [0x4A#8] .lsrA && reads [0x4B#8] .phk &&
      reads [0x4C#8, 0x34#8, 0x12#8] (.jmpAbs 0x1234#16) && reads [0x4D#8, 0x34#8, 0x12#8] (.eorAbs 0x1234#16) &&
      reads [0x4E#8, 0x34#8, 0x12#8] (.lsrAbs 0x1234#16) && reads [0x4F#8, 0x34#8, 0x12#8, 0x56#8] (.eorLong 0x561234#24)) = true := by
  decide

theorem test_decode_row_5 :
    (reads [0x50#8, 0x34#8] (.bvc 0x34#8) && reads [0x51#8, 0x34#8] (.eorDpIndY 0x34#8) &&
      reads [0x52#8, 0x34#8] (.eorDpInd 0x34#8) && reads [0x53#8, 0x34#8] (.eorSrIndY 0x34#8) &&
      reads [0x54#8, 0x34#8, 0x12#8] (.mvn 0x34#8 0x12#8) && reads [0x55#8, 0x34#8] (.eorDpX 0x34#8) &&
      reads [0x56#8, 0x34#8] (.lsrDpX 0x34#8) && reads [0x57#8, 0x34#8] (.eorDpIndLongY 0x34#8) &&
      reads [0x58#8] .cli && reads [0x59#8, 0x34#8, 0x12#8] (.eorAbsY 0x1234#16) &&
      reads [0x5A#8] .phy && reads [0x5B#8] .tcd &&
      reads [0x5C#8, 0x34#8, 0x12#8, 0x56#8] (.jmpLong 0x561234#24) && reads [0x5D#8, 0x34#8, 0x12#8] (.eorAbsX 0x1234#16) &&
      reads [0x5E#8, 0x34#8, 0x12#8] (.lsrAbsX 0x1234#16) && reads [0x5F#8, 0x34#8, 0x12#8, 0x56#8] (.eorLongX 0x561234#24)) = true := by
  decide

theorem test_decode_row_6 :
    (reads [0x60#8] .rts && reads [0x61#8, 0x34#8] (.adcDpXInd 0x34#8) &&
      reads [0x62#8, 0x34#8, 0x12#8] (.per 0x1234#16) && reads [0x63#8, 0x34#8] (.adcSr 0x34#8) &&
      reads [0x64#8, 0x34#8] (.stzDp 0x34#8) && reads [0x65#8, 0x34#8] (.adcDp 0x34#8) &&
      reads [0x66#8, 0x34#8] (.rorDp 0x34#8) && reads [0x67#8, 0x34#8] (.adcDpIndLong 0x34#8) &&
      reads [0x68#8] .pla && reads [0x69#8, 0x34#8] (.adcImm 0x0034#16) &&
      reads [0x6A#8] .rorA && reads [0x6B#8] .rtl &&
      reads [0x6C#8, 0x34#8, 0x12#8] (.jmpAbsInd 0x1234#16) && reads [0x6D#8, 0x34#8, 0x12#8] (.adcAbs 0x1234#16) &&
      reads [0x6E#8, 0x34#8, 0x12#8] (.rorAbs 0x1234#16) && reads [0x6F#8, 0x34#8, 0x12#8, 0x56#8] (.adcLong 0x561234#24)) = true := by
  decide

theorem test_decode_row_7 :
    (reads [0x70#8, 0x34#8] (.bvs 0x34#8) && reads [0x71#8, 0x34#8] (.adcDpIndY 0x34#8) &&
      reads [0x72#8, 0x34#8] (.adcDpInd 0x34#8) && reads [0x73#8, 0x34#8] (.adcSrIndY 0x34#8) &&
      reads [0x74#8, 0x34#8] (.stzDpX 0x34#8) && reads [0x75#8, 0x34#8] (.adcDpX 0x34#8) &&
      reads [0x76#8, 0x34#8] (.rorDpX 0x34#8) && reads [0x77#8, 0x34#8] (.adcDpIndLongY 0x34#8) &&
      reads [0x78#8] .sei && reads [0x79#8, 0x34#8, 0x12#8] (.adcAbsY 0x1234#16) &&
      reads [0x7A#8] .ply && reads [0x7B#8] .tdc &&
      reads [0x7C#8, 0x34#8, 0x12#8] (.jmpAbsXInd 0x1234#16) && reads [0x7D#8, 0x34#8, 0x12#8] (.adcAbsX 0x1234#16) &&
      reads [0x7E#8, 0x34#8, 0x12#8] (.rorAbsX 0x1234#16) && reads [0x7F#8, 0x34#8, 0x12#8, 0x56#8] (.adcLongX 0x561234#24)) = true := by
  decide

theorem test_decode_row_8 :
    (reads [0x80#8, 0x34#8] (.bra 0x34#8) && reads [0x81#8, 0x34#8] (.staDpXInd 0x34#8) &&
      reads [0x82#8, 0x34#8, 0x12#8] (.brl 0x1234#16) && reads [0x83#8, 0x34#8] (.staSr 0x34#8) &&
      reads [0x84#8, 0x34#8] (.styDp 0x34#8) && reads [0x85#8, 0x34#8] (.staDp 0x34#8) &&
      reads [0x86#8, 0x34#8] (.stxDp 0x34#8) && reads [0x87#8, 0x34#8] (.staDpIndLong 0x34#8) &&
      reads [0x88#8] .dey && reads [0x89#8, 0x34#8] (.bitImm 0x0034#16) &&
      reads [0x8A#8] .txa && reads [0x8B#8] .phb &&
      reads [0x8C#8, 0x34#8, 0x12#8] (.styAbs 0x1234#16) && reads [0x8D#8, 0x34#8, 0x12#8] (.staAbs 0x1234#16) &&
      reads [0x8E#8, 0x34#8, 0x12#8] (.stxAbs 0x1234#16) && reads [0x8F#8, 0x34#8, 0x12#8, 0x56#8] (.staLong 0x561234#24)) = true := by
  decide

theorem test_decode_row_9 :
    (reads [0x90#8, 0x34#8] (.bcc 0x34#8) && reads [0x91#8, 0x34#8] (.staDpIndY 0x34#8) &&
      reads [0x92#8, 0x34#8] (.staDpInd 0x34#8) && reads [0x93#8, 0x34#8] (.staSrIndY 0x34#8) &&
      reads [0x94#8, 0x34#8] (.styDpX 0x34#8) && reads [0x95#8, 0x34#8] (.staDpX 0x34#8) &&
      reads [0x96#8, 0x34#8] (.stxDpY 0x34#8) && reads [0x97#8, 0x34#8] (.staDpIndLongY 0x34#8) &&
      reads [0x98#8] .tya && reads [0x99#8, 0x34#8, 0x12#8] (.staAbsY 0x1234#16) &&
      reads [0x9A#8] .txs && reads [0x9B#8] .txy &&
      reads [0x9C#8, 0x34#8, 0x12#8] (.stzAbs 0x1234#16) && reads [0x9D#8, 0x34#8, 0x12#8] (.staAbsX 0x1234#16) &&
      reads [0x9E#8, 0x34#8, 0x12#8] (.stzAbsX 0x1234#16) && reads [0x9F#8, 0x34#8, 0x12#8, 0x56#8] (.staLongX 0x561234#24)) = true := by
  decide

theorem test_decode_row_A :
    (reads [0xA0#8, 0x34#8, 0x12#8] (.ldyImm 0x1234#16) && reads [0xA1#8, 0x34#8] (.ldaDpXInd 0x34#8) &&
      reads [0xA2#8, 0x34#8, 0x12#8] (.ldxImm 0x1234#16) && reads [0xA3#8, 0x34#8] (.ldaSr 0x34#8) &&
      reads [0xA4#8, 0x34#8] (.ldyDp 0x34#8) && reads [0xA5#8, 0x34#8] (.ldaDp 0x34#8) &&
      reads [0xA6#8, 0x34#8] (.ldxDp 0x34#8) && reads [0xA7#8, 0x34#8] (.ldaDpIndLong 0x34#8) &&
      reads [0xA8#8] .tay && reads [0xA9#8, 0x34#8] (.ldaImm 0x0034#16) &&
      reads [0xAA#8] .tax && reads [0xAB#8] .plb &&
      reads [0xAC#8, 0x34#8, 0x12#8] (.ldyAbs 0x1234#16) && reads [0xAD#8, 0x34#8, 0x12#8] (.ldaAbs 0x1234#16) &&
      reads [0xAE#8, 0x34#8, 0x12#8] (.ldxAbs 0x1234#16) && reads [0xAF#8, 0x34#8, 0x12#8, 0x56#8] (.ldaLong 0x561234#24)) = true := by
  decide

theorem test_decode_row_B :
    (reads [0xB0#8, 0x34#8] (.bcs 0x34#8) && reads [0xB1#8, 0x34#8] (.ldaDpIndY 0x34#8) &&
      reads [0xB2#8, 0x34#8] (.ldaDpInd 0x34#8) && reads [0xB3#8, 0x34#8] (.ldaSrIndY 0x34#8) &&
      reads [0xB4#8, 0x34#8] (.ldyDpX 0x34#8) && reads [0xB5#8, 0x34#8] (.ldaDpX 0x34#8) &&
      reads [0xB6#8, 0x34#8] (.ldxDpX 0x34#8) && reads [0xB7#8, 0x34#8] (.ldaDpIndLongY 0x34#8) &&
      reads [0xB8#8] .clv && reads [0xB9#8, 0x34#8, 0x12#8] (.ldaAbsY 0x1234#16) &&
      reads [0xBA#8] .tsx && reads [0xBB#8] .tyx &&
      reads [0xBC#8, 0x34#8, 0x12#8] (.ldyAbsX 0x1234#16) && reads [0xBD#8, 0x34#8, 0x12#8] (.ldaAbsX 0x1234#16) &&
      reads [0xBE#8, 0x34#8, 0x12#8] (.ldxAbsX 0x1234#16) && reads [0xBF#8, 0x34#8, 0x12#8, 0x56#8] (.ldaLongX 0x561234#24)) = true := by
  decide

theorem test_decode_row_C :
    (reads [0xC0#8, 0x34#8, 0x12#8] (.cpyImm 0x1234#16) && reads [0xC1#8, 0x34#8] (.cmpDpXInd 0x34#8) &&
      reads [0xC2#8, 0x34#8] (.rep 0x34#8) && reads [0xC3#8, 0x34#8] (.cmpSr 0x34#8) &&
      reads [0xC4#8, 0x34#8] (.cpyDp 0x34#8) && reads [0xC5#8, 0x34#8] (.cmpDp 0x34#8) &&
      reads [0xC6#8, 0x34#8] (.decDp 0x34#8) && reads [0xC7#8, 0x34#8] (.cmpDpIndLong 0x34#8) &&
      reads [0xC8#8] .iny && reads [0xC9#8, 0x34#8] (.cmpImm 0x0034#16) &&
      reads [0xCA#8] .dex && reads [0xCB#8] .wai &&
      reads [0xCC#8, 0x34#8, 0x12#8] (.cpyAbs 0x1234#16) && reads [0xCD#8, 0x34#8, 0x12#8] (.cmpAbs 0x1234#16) &&
      reads [0xCE#8, 0x34#8, 0x12#8] (.decAbs 0x1234#16) && reads [0xCF#8, 0x34#8, 0x12#8, 0x56#8] (.cmpLong 0x561234#24)) = true := by
  decide

theorem test_decode_row_D :
    (reads [0xD0#8, 0x34#8] (.bne 0x34#8) && reads [0xD1#8, 0x34#8] (.cmpDpIndY 0x34#8) &&
      reads [0xD2#8, 0x34#8] (.cmpDpInd 0x34#8) && reads [0xD3#8, 0x34#8] (.cmpSrIndY 0x34#8) &&
      reads [0xD4#8, 0x34#8] (.pei 0x34#8) && reads [0xD5#8, 0x34#8] (.cmpDpX 0x34#8) &&
      reads [0xD6#8, 0x34#8] (.decDpX 0x34#8) && reads [0xD7#8, 0x34#8] (.cmpDpIndLongY 0x34#8) &&
      reads [0xD8#8] .cld && reads [0xD9#8, 0x34#8, 0x12#8] (.cmpAbsY 0x1234#16) &&
      reads [0xDA#8] .phx && reads [0xDB#8] .stp &&
      reads [0xDC#8, 0x34#8, 0x12#8] (.jmpAbsIndLong 0x1234#16) && reads [0xDD#8, 0x34#8, 0x12#8] (.cmpAbsX 0x1234#16) &&
      reads [0xDE#8, 0x34#8, 0x12#8] (.decAbsX 0x1234#16) && reads [0xDF#8, 0x34#8, 0x12#8, 0x56#8] (.cmpLongX 0x561234#24)) = true := by
  decide

theorem test_decode_row_E :
    (reads [0xE0#8, 0x34#8, 0x12#8] (.cpxImm 0x1234#16) && reads [0xE1#8, 0x34#8] (.sbcDpXInd 0x34#8) &&
      reads [0xE2#8, 0x34#8] (.sep 0x34#8) && reads [0xE3#8, 0x34#8] (.sbcSr 0x34#8) &&
      reads [0xE4#8, 0x34#8] (.cpxDp 0x34#8) && reads [0xE5#8, 0x34#8] (.sbcDp 0x34#8) &&
      reads [0xE6#8, 0x34#8] (.incDp 0x34#8) && reads [0xE7#8, 0x34#8] (.sbcDpIndLong 0x34#8) &&
      reads [0xE8#8] .inx && reads [0xE9#8, 0x34#8] (.sbcImm 0x0034#16) &&
      reads [0xEA#8] .nop && reads [0xEB#8] .xba &&
      reads [0xEC#8, 0x34#8, 0x12#8] (.cpxAbs 0x1234#16) && reads [0xED#8, 0x34#8, 0x12#8] (.sbcAbs 0x1234#16) &&
      reads [0xEE#8, 0x34#8, 0x12#8] (.incAbs 0x1234#16) && reads [0xEF#8, 0x34#8, 0x12#8, 0x56#8] (.sbcLong 0x561234#24)) = true := by
  decide

theorem test_decode_row_F :
    (reads [0xF0#8, 0x34#8] (.beq 0x34#8) && reads [0xF1#8, 0x34#8] (.sbcDpIndY 0x34#8) &&
      reads [0xF2#8, 0x34#8] (.sbcDpInd 0x34#8) && reads [0xF3#8, 0x34#8] (.sbcSrIndY 0x34#8) &&
      reads [0xF4#8, 0x34#8, 0x12#8] (.pea 0x1234#16) && reads [0xF5#8, 0x34#8] (.sbcDpX 0x34#8) &&
      reads [0xF6#8, 0x34#8] (.incDpX 0x34#8) && reads [0xF7#8, 0x34#8] (.sbcDpIndLongY 0x34#8) &&
      reads [0xF8#8] .sed && reads [0xF9#8, 0x34#8, 0x12#8] (.sbcAbsY 0x1234#16) &&
      reads [0xFA#8] .plx && reads [0xFB#8] .xce &&
      reads [0xFC#8, 0x34#8, 0x12#8] (.jsrAbsXInd 0x1234#16) && reads [0xFD#8, 0x34#8, 0x12#8] (.sbcAbsX 0x1234#16) &&
      reads [0xFE#8, 0x34#8, 0x12#8] (.incAbsX 0x1234#16) && reads [0xFF#8, 0x34#8, 0x12#8, 0x56#8] (.sbcLongX 0x561234#24)) = true := by
  decide

theorem test_decode_immediate_widths : (decode .v65816 ⟨.w16, .w8⟩ [0xA9#8, 0x34#8, 0x12#8] matches .ok (.ldaImm 0x1234#16, [])) = true ∧
    (decode .v65816 ⟨.w16, .w8⟩ [0xA2#8, 0x34#8, 0x12#8] matches .ok (.ldxImm 0x0034#16, [0x12#8])) = true := by decide

theorem test_decode_refuses : (decode .v6502 ⟨.w8, .w8⟩ [0x80#8, 0xFE#8] matches .error (.illegalOpcode 0x80#8)) = true ∧
    (decode .v6502 ⟨.w8, .w8⟩ [0xA9#8] matches .error .truncated) = true := by decide

theorem test_table_word : decodeTableWord 8 0xA9 = some (.ldaImm 0#16) ∧ decodeTableWord 8 0x54 = some (.mvn 0#8 0#8) := by
  decide

/-! Single steps. Every expected result is one the spec states in the rule named. -/

/-- R161: `69 01 00` with C = 0x7FFF gives 0x8000, n and v. -/
theorem test_adc_wraps_16 : nextIs (exec (.adcImm 0x0001#16) { sNat with b := 0x7F#8, a := 0xFF#8 }) (fun t => t.c == 0x8000#16 && t.flagN && t.flagV && !t.flagC && !t.flagZ) = true := by decide

/-- R161: `69 01` with A = 0xFF gives 0 with z and c. -/
theorem test_adc_carry_out : nextIs (exec (.adcImm 0x0001#16) { s6502 with a := 0xFF#8 }) (fun t => t.a == 0#8 && t.flagC && t.flagZ && !t.flagN && !t.flagV) = true := by decide

/-- R163: `E9 01` with A = 0, c = 1 gives 0xFF, c = 0. -/
theorem test_sbc_borrow : nextIs (exec (.sbcImm 0x0001#16) { s6502 with p := 0x31#8 }) (fun t => t.a == 0xFF#8 && !t.flagC && t.flagN && !t.flagZ && !t.flagV) = true := by decide

/-- R162: 58 + 46 + 1 in decimal mode gives 05 with c. -/
theorem test_adc_decimal : nextIs (exec (.adcImm 0x0046#16) { sC02 with a := 0x58#8, p := 0x39#8 }) (fun t => t.a == 0x05#8) = true := by decide

/-- R162, vector A14: a digit above 9 is refused. -/
theorem test_adc_decimal_refused : refusedAs (exec (.adcImm 0x0001#16) { sC02 with a := 0x0A#8, p := 0x38#8 }) .adcNotBcd = true := by decide

/-- R164: 12 - 21 in decimal mode gives 91 with c = 0. -/
theorem test_sbc_decimal : nextIs (exec (.sbcImm 0x0021#16) { sC02 with a := 0x12#8, p := 0x39#8 }) (fun t => t.a == 0x91#8) = true := by decide

/-- R162, R164: the decimal carry of the two examples. -/
theorem test_decimal_carry : addDecimal 0x58#8 0x46#8 true = (0x05#8, true) ∧ subDecimal 0x12#8 0x21#8 true = (0x91#8, false) := by decide

/-- R167: 0x00 becomes 0x00FF, not 0xFFFF, at index width 8. -/
theorem test_dex_wraps : nextIs (exec .dex s6502) (fun t => t.x == 0x00FF#16 && t.flagN) = true := by decide

/-- R171: `C8` with Y = 0x00FF, xw = 16. -/
theorem test_iny_16 : nextIs (exec .iny { sNat with y := 0x00FF#16 }) (fun t => t.y == 0x0100#16 && !t.flagN && !t.flagZ) = true := by decide

/-- R192: `24 70` with 0xC0 there and A = 0x3F. -/
theorem test_bit_memory : nextIs (exec (.bitDp 0x70#8) { withBytes s6502 [(0x70, 0xC0#8)] with a := 0x3F#8 }) (fun t => t.flagN && t.flagV && t.flagZ && t.a == 0x3F#8) = true := by decide

/-- R192: `89 80` leaves n and v. -/
theorem test_bit_immediate : nextIs (exec (.bitImm 0x0080#16) { sC02 with a := 0x80#8, p := 0x70#8 }) (fun t => !t.flagZ && !t.flagN && t.flagV) = true := by decide

/-- R198: `2A` with A = 0x40, c = 1. -/
theorem test_rol_a : nextIs (exec .rolA { s6502 with a := 0x40#8, p := 0x31#8 }) (fun t => t.a == 0x81#8 && !t.flagC && t.flagN) = true := by decide

/-- R199: `6A` with A = 0x01, c = 1. -/
theorem test_ror_a : nextIs (exec .rorA { s6502 with a := 0x01#8, p := 0x31#8 }) (fun t => t.a == 0x80#8 && t.flagC && t.flagN) = true := by decide

/-- R200: `14 70` with 0xFF there and A = 0x0F. -/
theorem test_trb : nextIs (exec (.trbDp 0x70#8) { withBytes sC02 [(0x70, 0xFF#8)] with a := 0x0F#8 }) (fun t => t.byteAt 0x70#24 == 0xF0#8 && !t.flagZ) = true := by decide

/-- R227: `C2 30` with P = 0x34. -/
theorem test_rep_native : nextIs (exec (.rep 0x30#8) { sNat with p := 0x34#8 }) (fun t => t.p == 0x04#8 && t.pc == 0x8002#16) = true := by decide

/-- R228: `E2 10` with X = 0x1234. -/
theorem test_sep_clears_index_high : nextIs (exec (.sep 0x10#8) { sNat with x := 0x1234#16 }) (fun t => t.flagX && t.x == 0x0034#16) = true := by decide

/-- R230: `E0 08` with X = 0x07. -/
theorem test_cpx : nextIs (exec (.cpxImm 0x0008#16) { s6502 with x := 0x0007#16 }) (fun t => t.flagN && !t.flagZ && !t.flagC) = true := by decide

/-- R234: `B0 FC` at 0x1000 with c = 1. -/
theorem test_bcs_back : nextIs (exec (.bcs 0xFC#8) { s6502 with pc := 0x1000#16, p := 0x31#8 }) (fun t => t.pc == 0x0FFE#16) = true := by decide

/-- R240: `70 80` at 0x4000 with v = 1. -/
theorem test_bvs_far : nextIs (exec (.bvs 0x80#8) { s6502 with pc := 0x4000#16, p := 0x70#8 }) (fun t => t.pc == 0x3F82#16) = true := by decide

/-- R141, vector F48. -/
theorem test_jmp_indirect_refused : refusedAs (exec (.jmpAbsInd 0x30FF#16) s6502) .jmpIndirectLowByteFF = true := by decide

/-- R245: `7C 00 20` with X = 2 on V65C02. -/
theorem test_jmp_indexed_indirect : nextIs (exec (.jmpAbsXInd 0x2000#16) { withBytes sC02 [(0x2002, 0x34#8), (0x2003, 0x12#8)] with x := 0x0002#16 }) (fun t => t.pc == 0x1234#16) = true := by decide

/-- R248: `20 00 30` at 0x1000. -/
theorem test_jsr : nextIs (exec (.jsrAbs 0x3000#16) { s6502 with pc := 0x1000#16 }) (fun t => t.byteAt 0x01FF#24 == 0x10#8 && t.byteAt 0x01FE#24 == 0x02#8 && t.sp == 0x01FD#16 && t.pc == 0x3000#16) = true := by decide

/-- R250: `22 00 80 02` at 01:1000. -/
theorem test_jsl : nextIs (exec (.jsl 0x028000#24) { sNat with pbr := 0x01#8, pc := 0x1000#16 }) (fun t => t.byteAt 0x1FFF#24 == 0x01#8 && t.byteAt 0x1FFE#24 == 0x10#8 && t.byteAt 0x1FFD#24 == 0x03#8 && t.pbr == 0x02#8 && t.pc == 0x8000#16) = true := by decide

/-- R252: `6B` with 03 10 01 on the stack. -/
theorem test_rtl : nextIs (exec .rtl { withBytes sNat [(0x1FFD, 0x03#8), (0x1FFE, 0x10#8), (0x1FFF, 0x01#8)] with sp := 0x1FFC#16 }) (fun t => t.sp == 0x1FFF#16 && t.pbr == 0x01#8 && t.pc == 0x1004#16) = true := by decide

/-- R279: m = 1, x = 0, B = 0x12, A = 0x34. -/
theorem test_tax_mixed_widths : nextIs (exec .tax { sNat with p := 0x20#8, b := 0x12#8, a := 0x34#8 }) (fun t => t.x == 0x1234#16 && !t.flagN && !t.flagZ) = true := by decide

/-- R287: native, x = 1, X = 0x00FF. -/
theorem test_txs_native : nextIs (exec .txs { sNat with p := 0x10#8, x := 0x00FF#16 }) (fun t => t.sp == 0x00FF#16) = true := by decide

/-- R274: `8D 00 20` with C = 0x1234. -/
theorem test_sta_16 : nextIs (exec (.staAbs 0x2000#16) { sNat with b := 0x12#8, a := 0x34#8 }) (fun t => t.byteAt 0x2000#24 == 0x34#8 && t.byteAt 0x2001#24 == 0x12#8) = true := by decide

/-- R314: `28` on V6502 with 0x00 on the stack. -/
theorem test_plp_8bit : nextIs (exec .plp { s6502 with p := 0xFF#8 }) (fun t => t.p == 0x30#8) = true := by decide

/-- R324: `08` on V6502 with n = c = 1. -/
theorem test_php_8bit : nextIs (exec .php { s6502 with p := 0xB1#8 }) (fun t => t.byteAt 0x01FF#24 == 0xB1#8 && t.sp == 0x01FE#16) = true := by decide

/-- R74, vector K21. -/
theorem test_plb_refused : refusedAs (exec .plb sEmu) .stackWrapsPage1 = true := by decide

/-- R342: V6502, `40` with 31 02 10 on the stack. -/
theorem test_rti_8bit : nextIs (exec .rti { withBytes s6502 [(0x01FD, 0x31#8), (0x01FE, 0x02#8), (0x01FF, 0x10#8)] with sp := 0x01FC#16 }) (fun t => t.flagC && t.p == 0x31#8 && t.pc == 0x1002#16 && t.sp == 0x01FF#16) = true := by decide

/-- R340, R386: PBR, PC + 2 and P are pushed, the vector is 00:FFE6. -/
theorem test_brk_native : nextIs (exec (.brk 0#8) { withBytes sNat [(0xFFE6, 0x00#8), (0xFFE7, 0x90#8)] with pbr := 0x03#8 }) (fun t => t.byteAt 0x1FFF#24 == 0x03#8 && t.byteAt 0x1FFE#24 == 0x80#8 && t.byteAt 0x1FFD#24 == 0x02#8 && t.byteAt 0x1FFC#24 == 0#8 && t.pbr == 0#8 && t.pc == 0x9000#16 && t.flagI) = true := by decide

/-- R362: `44 00 00`, C = 1, X = 0x1001, Y = 0x1002, memory AA BB. -/
theorem test_mvp_first_byte : nextIs (exec (.mvp 0#8 0#8) { withBytes sNat [(0x1000, 0xAA#8), (0x1001, 0xBB#8)] with a := 1#8, x := 0x1001#16, y := 0x1002#16 }) (fun t => t.byteAt 0x1002#24 == 0xBB#8 && t.c == 0#16 && t.x == 0x1000#16 && t.y == 0x1001#16 && t.pc == 0x8000#16) = true := by decide

/-- R363: the high bytes of X, Y are lost and S is forced into page 1. -/
theorem test_xce_to_emulation : nextIs (exec .xce { sNat with p := 0x01#8, x := 0x1234#16, b := 0x55#8 }) (fun t => t.e && !t.flagC && t.flagM && t.flagX && t.x == 0x0034#16 && t.sp == 0x01FF#16 && t.b == 0x55#8) = true := by decide

/-- R149: on V6502 `B5 FF` with X = 2 reads 0x0001. -/
theorem test_dp_indexed_wraps : nextIs (exec (.ldaDpX 0xFF#8) { withBytes s6502 [(0x0001, 0x42#8)] with x := 0x0002#16 }) (fun t => t.a == 0x42#8) = true := by decide

/-- R127, R149: `BD FF FF` with DBR = 1, X = 1 reads 02:0000 on V65816. -/
theorem test_abs_indexed_crosses_bank : nextIs (exec (.ldaAbsX 0xFFFF#16) { withBytes sEmu [(0x020000, 0x42#8)] with dbr := 0x01#8, x := 0x0001#16 }) (fun t => t.a == 0x42#8) = true := by decide

/-- R365 and R11: the first instruction after reset is the one placed there, WDM among them. -/
theorem test_step_at_reset : nextIs (step (State.reset.withFetchWord 8 0x42)) (fun t => t.pc == 0x0002#16) = true := by decide

/-- R395: WAI waits, a masked IRQ ends the wait, and a reset ends a stop at `VEC_RESET`. -/
theorem test_wait_and_stop : nextIs (step { sEmu with run := .waiting, irqLine := true, p := 0x34#8 })
      (fun t => t.run == .running && t.pc == 0x8000#16) = true ∧
    nextIs (step { withBytes sEmu [(0xFFFD, 0x90#8)] with run := .stopped, resetLine := true })
      (fun t => t.run == .running && t.pc == 0x9000#16 && t.e && t.dbr == 0#8) = true := by decide

/-- R387, R386: an IRQ with i clear pushes PC and P with b clear, and enters at 0xFFFE. -/
theorem test_irq : nextIs (step { withBytes s6502 [(0xFFFF, 0xC0#8)] with irqLine := true })
    (fun t => t.pc == 0xC000#16 && t.byteAt 0x01FF#24 == 0x80#8 && t.byteAt 0x01FE#24 == 0x00#8 &&
      t.byteAt 0x01FD#24 == 0x20#8 && t.flagI) = true := by decide

/-! Witnesses: for each statement with hypotheses, a state and operands that meet them, at boundary values where it has clauses. -/

theorem inv_sNat : sNat.Inv := ⟨by decide, by decide, by decide, by decide, by decide, by decide, by decide⟩

theorem inv_s6502 : s6502.Inv := ⟨by decide, by decide, by decide, by decide, by decide, by decide, by decide⟩

theorem inv_sEmu : sEmu.Inv := ⟨by decide, by decide, by decide, by decide, by decide, by decide, by decide⟩

/-- The largest constants of both widths. -/
theorem witness_DecodeAfterEncode : (Instr.ldaImm 0x00FF#16).wellFormed .v65816 ⟨.w8, .w16⟩ = true ∧ (Instr.ldaImm 0xFFFF#16).wellFormed .v65816 ⟨.w16, .w8⟩ = true := by decide

theorem witness_EncodeAfterDecode : (decode .v65816 ⟨.w8, .w8⟩ [0x5C#8, 0xFF#8, 0xFF#8, 0xFF#8, 0x00#8]) = .ok (.jmpLong 0xFFFFFF#24, [0x00#8]) := by rfl

/-- The instruction lies across the end of the program bank. -/
theorem witness_StepRunsTheInstruction : (fun s i => s.resetLine = false ∧ s.run = .running ∧ (s.cfg.abortModelled && s.abortPending) = false ∧ s.nmiPending = false ∧ (s.irqLine && !s.flagI) = false ∧
    i.wellFormed s.cfg.variant s.widths = true ∧
    ∀ k (h : k < (encode s.widths i).length), s.isIo (fullAddr s.pbr (s.pc + BitVec.ofNat 16 k)) = false ∧
      s.byteAt (fullAddr s.pbr (s.pc + BitVec.ofNat 16 k)) = (encode s.widths i)[k])
    { withBytes s6502 [(0xFFFF, 0xA9#8), (0x0000, 0x05#8)] with pc := 0xFFFF#16 } (.ldaImm 0x0005#16) := by decide

/-- One state for each clause: the opcode byte in I/O, an unavailable byte, the last operand byte in I/O. -/
theorem witness_StepRefusesTheFetch : (fun s : State => s.resetLine = false ∧ s.run = .running ∧ (s.cfg.abortModelled && s.abortPending) = false ∧ s.nmiPending = false ∧ (s.irqLine && !s.flagI) = false ∧ s.isIo (fullAddr s.pbr s.pc) = true) (withIo s6502 0x8000 0x8000) ∧
    (fun s : State => s.resetLine = false ∧ s.run = .running ∧ (s.cfg.abortModelled && s.abortPending) = false ∧ s.nmiPending = false ∧ (s.irqLine && !s.flagI) = false ∧ s.isIo (fullAddr s.pbr s.pc) = false ∧
      s.cfg.variant.offers (opcodeCell (s.byteAt (fullAddr s.pbr s.pc))).since = false) (withBytes s6502 [(0x8000, 0x02#8)]) ∧
    (fun s : State => s.resetLine = false ∧ s.run = .running ∧ (s.cfg.abortModelled && s.abortPending) = false ∧ s.nmiPending = false ∧ (s.irqLine && !s.flagI) = false ∧ s.isIo (fullAddr s.pbr s.pc) = false ∧
      s.cfg.variant.offers (opcodeCell (s.byteAt (fullAddr s.pbr s.pc))).since = true ∧
      (1 < opcodeLength s.widths (s.byteAt (fullAddr s.pbr s.pc)) ∧
        s.isIo (fullAddr s.pbr (s.pc + BitVec.ofNat 16 1)) = true)) (withIo (withBytes s6502 [(0x8000, 0xA9#8)]) 0x8001 0x8001) := by decide

theorem witness_ResetStep : (fun s : State => s.resetLine = true ∧ s.cfg.variant ≠ .v6502 ∧ vectorPlain s.cfg.vecReset s) { sEmu with resetLine := true } := ⟨rfl, by decide, rfl, rfl⟩

/-- An NMI with i set, from Waiting; an IRQ with i clear, from Running. -/
theorem witness_HardwareInterruptSteps : (fun s : State => s.resetLine = false ∧ s.run ≠ .stopped ∧ (s.cfg.abortModelled && s.abortPending) = false ∧ Memory.wf s.mem ∧
      s.nmiPending = true) { sEmu with nmiPending := true, run := .waiting, p := 0x34#8 } ∧
    (fun s : State => s.resetLine = false ∧ s.run ≠ .stopped ∧ (s.cfg.abortModelled && s.abortPending) = false ∧ Memory.wf s.mem ∧
      s.nmiPending = false ∧ s.irqLine = true ∧ s.flagI = false) { sEmu with irqLine := true } := by decide

theorem witness_WaitingAndStoppedSteps : (fun s : State => s.resetLine = false ∧ s.run = .stopped) { sEmu with run := .stopped } ∧
    (fun s : State => s.resetLine = false ∧ s.run ≠ .stopped ∧ (s.cfg.abortModelled && s.abortPending) = true)
      { sEmu with cfg := { sEmu.cfg with abortModelled := true }, abortPending := true } ∧
    (fun s : State => s.resetLine = false ∧ s.run = .waiting ∧ (s.cfg.abortModelled && s.abortPending) = false ∧
      s.nmiPending = false ∧ s.irqLine = false) { sEmu with run := .waiting } ∧
    (fun s : State => s.resetLine = false ∧ s.run = .waiting ∧ (s.cfg.abortModelled && s.abortPending) = false ∧
      s.nmiPending = false ∧ s.irqLine = true ∧ s.flagI = true) { sEmu with run := .waiting, irqLine := true, p := 0x34#8 } := by decide

/-- The state after reset steps (through BRK, memory being empty). -/
theorem completes_reset : ∃ t, step State.reset = .next t :=
  (exists_of_nextIs (p := fun _ => true) (by decide)).imp fun _ h => h.1

theorem witness_InvariantKept : State.reset.Inv ∧ ∃ t, step State.reset = .next t := ⟨⟨by decide, by decide, by decide, by decide, by decide, by decide, by decide⟩, completes_reset⟩

/-- The Overflow pin sets v where it is connected. -/
theorem witness_InvariantKeptByHost : { s6502 with cfg := { s6502.cfg with soConnected := true } }.Inv ∧
    (hostAct .setOverflow { s6502 with cfg := { s6502.cfg with soConnected := true } }).flagV ≠ s6502.flagV := ⟨⟨by decide, by decide, by decide, by decide, by decide, by decide, by decide⟩, by decide⟩

/-- A store on V6502 steps. -/
theorem completes_store : ∃ t, step (withBytes s6502 [(0x8000, 0x85#8), (0x8001, 0xFF#8)]) = .next t :=
  (exists_of_nextIs (p := fun _ => true) (by decide)).imp fun _ h => h.1

theorem witness_EightBitVariantsStayInBank0 : (fun s : State => s.Inv ∧ s.MemInBank0 ∧ ∃ t, step s = .next t) (withBytes s6502 [(0x8000, 0x85#8), (0x8001, 0xFF#8)]) := ⟨⟨by decide, by decide, by decide, by decide, by decide, by decide, by decide⟩, by decide, completes_store⟩

/-- In Stopped a step keeps a latched NMI. -/
theorem witness_ParametersAndLinesConstant : ∃ t, step { sEmu with run := .stopped, nmiPending := true } = .next t ∧ t.nmiPending = true := ⟨_, rfl, rfl⟩

/-- XCE leaves emulation mode. -/
theorem witness_EmulationBitWriters : ∃ t, step (withBytes sEmu [(0x8000, 0xFB#8)]) = .next t ∧ t.e ≠ true :=
  (exists_of_nextIs (p := fun t => decide (t.e ≠ true)) (by decide)).imp fun _ h => ⟨h.1, of_decide_eq_true h.2⟩

/-- TCD changes D. -/
theorem witness_DirectPageAndBankWriters_d : ∃ t, step { withBytes sEmu [(0x8000, 0x5B#8)] with a := 0xFF#8 } = .next t ∧ t.d ≠ 0#16 :=
  (exists_of_nextIs (p := fun t => decide (t.d ≠ 0#16)) (by decide)).imp fun _ h => ⟨h.1, of_decide_eq_true h.2⟩

/-- PLB changes DBR. -/
theorem witness_DirectPageAndBankWriters_dbr : ∃ t, step { withBytes sEmu [(0x8000, 0xAB#8), (0x01FF, 0xFF#8)] with sp := 0x01FE#16 } = .next t ∧ t.dbr ≠ 0#8 :=
  (exists_of_nextIs (p := fun t => decide (t.dbr ≠ 0#8)) (by decide)).imp fun _ h => ⟨h.1, of_decide_eq_true h.2⟩

/-- JMP long changes PBR. -/
theorem witness_DirectPageAndBankWriters_pbr : ∃ t, step (withBytes sEmu [(0x8000, 0x5C#8), (0x8003, 0xFF#8)]) = .next t ∧ t.pbr ≠ 0#8 :=
  (exists_of_nextIs (p := fun t => decide (t.pbr ≠ 0#8)) (by decide)).imp fun _ h => ⟨h.1, of_decide_eq_true h.2⟩

/-- A store to the last address of an I/O region, and to the first of a region that is not `Writable`. -/
theorem witness_ReadOnlyBytesKept :
    (fun s : State => s.isIo 0x0010#24 = true ∧ ∃ t, step s = .next t)
      (withIo (withBytes s6502 [(0x8000, 0x85#8), (0x8001, 0x10#8)]) 0x0000 0x0010) ∧
    (fun s : State => s.writable 0x0010#24 = false ∧ ∃ t, step s = .next t)
      { withBytes s6502 [(0x8000, 0x85#8), (0x8001, 0x10#8)] with cfg := { s6502.cfg with romRegions := [⟨0x10, 0x20⟩] } } :=
  ⟨⟨by decide, (exists_of_nextIs (p := fun _ => true) (by decide)).imp fun _ h => h.1⟩,
    by decide, (exists_of_nextIs (p := fun _ => true) (by decide)).imp fun _ h => h.1⟩

theorem witness_PCAdvancesByTheLength : setsPC (.wdm 0#8) = false ∧ exec (.wdm 0#8) s6502 = .next { s6502 with pc := 0x8002#16 } := ⟨rfl, rfl⟩

/-- A word whose second byte wraps in its bank, and an address in I/O. -/
theorem witness_MultiByteReads : (fun (s : State) (l : Loc) => s.isIo (byteAddr s.cfg.variant l 0) = false ∧ s.isIo (byteAddr s.cfg.variant l 1) = false ∧
      s.isIo (byteAddr s.cfg.variant l 2) = false) sNat ⟨0x01FFFF#24, .bank⟩ ∧
    (withIo sNat 0x10 0x10).isIo 0x10#24 = true := by decide

/-- The base and index at their ends; the last entry of the list is a location that wraps in its page. -/
theorem witness_DirectAddresses : (AddrMode.absX 0xFFFF#16, (0xFF * 65536 + 0xFFFF + 0xFFFF + 1) % addressSpace .v65816) ∈
      [(AddrMode.absX 0xFFFF#16, (0xFF * 65536 + 0xFFFF + 0xFFFF + 1) % addressSpace .v65816)] ∧
    ((AddrMode.dpY 0xFF#8).resolve { s6502 with y := 0x0001#16 }).1 = ⟨0#24, .page⟩ ∧
    ((AddrMode.dpY 0xFF#8).resolve { sEmu with y := 0x0001#16, d := 0x0001#16 }).1 = ⟨0x0101#24, .bank⟩ := by decide

/-- The pointer of (dp) wraps in the page on V6502. -/
theorem witness_IndirectAddresses : ((AddrMode.dpInd 0xFF#8).resolve (withBytes s6502 [(0x00FF, 0x34#8), (0x0000, 0x12#8)])).1 = ⟨0x1234#24, .linear⟩ := by decide

/-- Each clause, on both sides of its boundary. -/
theorem witness_AddressingRefusals : readForm .x (.ldaDpIndLong 0xFE#8) = some (.mem (.dpIndLong 0xFE#8)) ∧
    (Operand.mem (.dpIndLong 0xFE#8)).refusal sEmu ≠ none ∧ (Operand.mem (.dpIndLong 0xFD#8)).refusal sEmu = none ∧
    (staForm (.staDpXInd 0xFE#8)).map Operand.mem = some (.mem (.dpXInd 0xFE#8)) ∧
    (Operand.mem (.dpXInd 0xFE#8)).refusal { sEmu with d := 0x0101#16 } ≠ none ∧
    (Operand.mem (.dpXInd 0xFF#8)).refusal { sEmu with d := 0x0101#16 } = none ∧
    { sEmu with cfg := { sEmu.cfg with ldxIndex := .refuse } }.cfg.ldxIndex = .refuse ∧
    refusedAs (exec (.jmpAbsInd 0xFFFF#16) s6502) .jmpIndirectLowByteFF = true ∧
    refusedAs (exec (.jmpAbsInd 0xFFFE#16) s6502) .jmpIndirectLowByteFF = false ∧
    refusedAs (exec (.pei 0xFF#8) sEmu) .directPageNewModeCrossesPage = true ∧
    refusedAs (exec (.pei 0xFE#8) sEmu) .directPageNewModeCrossesPage = false := by decide

/-- A push from the bottom of page 1, and a pull to its top. -/
theorem witness_StackWrapRefusals : 0 < newPushBytes .phd ∧ Instr.phd ≠ .pei 0xFF#8 ∧ WrapsPage1 .phd { sEmu with sp := 0x0100#16 } ∧
    ¬ WrapsPage1 .phd { sEmu with sp := 0x0101#16 } ∧ 0 < newPullBytes .pld ∧ WrapsPage1 .pld { sEmu with sp := 0x01FE#16 } ∧
    ¬ WrapsPage1 .pld { sEmu with sp := 0x01FD#16 } ∧ 0 < newPushBytes (.pei 0xFE#8) ∧ Instr.pei 0xFE#8 ≠ .pei 0xFF#8 := by unfold WrapsPage1; decide

/-- The largest operand. -/
theorem witness_AdcBinary : adcForm (.adcImm 0xFFFF#16) = some (.imm 0xFFFF#16) ∧ (Operand.imm 0xFFFF#16).refusal sNat = none ∧ sNat.flagD = false := by decide

/-- Valid digits at their largest, and one digit just above. -/
theorem witness_AdcDecimal : adcForm (.adcImm 0x0099#16) = some (.imm 0x0099#16) ∧ (Operand.imm 0x0099#16).refusal s6502 = none ∧
    { s6502 with p := 0x38#8 }.flagD = true ∧
    (fun m : Byte => ∃ k < 2, 9 < m.toNat / 16 ^ k % 16) 0x9A#8 ∧ ¬ (fun m : Byte => ∃ k < 2, 9 < m.toNat / 16 ^ k % 16) 0x99#8 := by decide

/-- The largest operand. -/
theorem witness_SbcBinary : sbcForm (.sbcImm 0xFFFF#16) = some (.imm 0xFFFF#16) ∧ (Operand.imm 0xFFFF#16).refusal sNat = none ∧ sNat.flagD = false := by decide

/-- Valid digits at their largest, and one digit just above. -/
theorem witness_SbcDecimal : sbcForm (.sbcImm 0x0099#16) = some (.imm 0x0099#16) ∧ (Operand.imm 0x0099#16).refusal s6502 = none ∧
    { s6502 with p := 0x38#8 }.flagD = true ∧
    (fun m : Byte => ∃ k < 2, 9 < m.toNat / 16 ^ k % 16) 0x9A#8 ∧ ¬ (fun m : Byte => ∃ k < 2, 9 < m.toNat / 16 ^ k % 16) 0x99#8 := by decide

theorem witness_IncDecMemory : Memory.wf sNat.mem ∧ incForm (.incAbsX 0xFFFF#16) = some (.absX 0xFFFF#16) ∧ decForm (.decDp 0#8) = some (.dp 0#8) := by decide

/-- Each member of each list. -/
theorem witness_IncDecRegisters : ((Instr.incA, 1) ∈ [(Instr.incA, 1), (Instr.decA, 2 ^ sNat.mw.bits - 1)]) ∧
    ((Instr.decA, 65535) ∈ [(Instr.incA, 1), (Instr.decA, 2 ^ sNat.mw.bits - 1)]) := by decide

theorem witness_LogicOperations : andForm (.andImm 0xFFFF#16) = some (.imm 0xFFFF#16) ∧ eorForm (.eorDp 0xFF#8) = some (.mem (.dp 0xFF#8)) ∧
    oraForm (.oraLong 0xFFFFFF#24) = some (.mem (.long 0xFFFFFF#24)) ∧ (Operand.imm 0xFFFF#16).refusal sNat = none ∧
    (Operand.mem (.dp 0xFF#8)).refusal sNat = none ∧ (Operand.mem (.long 0xFFFFFF#24)).refusal sNat = none := by decide

theorem witness_BitTests : bitForm (.bitAbsX 0xFFFF#16) = some (.absX 0xFFFF#16) := by decide

theorem witness_ShiftsOfMemory : Memory.wf sNat.mem ∧ shiftForm (.aslDp 0xFF#8) = some (.asl, .dp 0xFF#8) ∧ shiftForm (.lsrAbs 0xFFFF#16) = some (.lsr, .abs 0xFFFF#16) ∧
    shiftForm (.rolDpX 0xFF#8) = some (.rol, .dpX 0xFF#8) ∧ shiftForm (.rorAbsX 0xFFFF#16) = some (.ror, .absX 0xFFFF#16) := by decide

theorem witness_ShiftsOfTheAccumulator : shiftAccForm .aslA = some .asl ∧ shiftAccForm .lsrA = some .lsr ∧ shiftAccForm .rolA = some .rol ∧ shiftAccForm .rorA = some .ror := by decide

theorem witness_TestAndModifyBits : Memory.wf sNat.mem ∧ trbForm (.trbDp 0xFF#8) = some (.dp 0xFF#8) ∧ tsbForm (.tsbAbs 0xFFFF#16) = some (.abs 0xFFFF#16) := by decide

theorem witness_FlagInstructions : flagForm .sec = some (.c, true) ∧ flagForm .clv = some (.v, false) := by decide

theorem witness_Compares : cmpForm (.cmpImm 0xFFFF#16) = some (.imm 0xFFFF#16) ∧ cpxForm (.cpxDp 0xFF#8) = some (.mem (.dp 0xFF#8)) ∧
    cpyForm (.cpyAbs 0xFFFF#16) = some (.mem (.abs 0xFFFF#16)) ∧ (Operand.imm 0xFFFF#16).refusal sNat = none ∧
    (Operand.mem (.dp 0xFF#8)).refusal sNat = none ∧ (Operand.mem (.abs 0xFFFF#16)).refusal sNat = none := by decide

/-- The two ends of the displacement. -/
theorem witness_Branches : branchForm (.bcc 0x80#8) = some (.c, false, 0x80#8) ∧ branchForm (.bvs 0x7F#8) = some (.v, true, 0x7F#8) := by decide

/-- V6502 with a low byte of 0xFF under PAGE_WRAP, and a pointer outside I/O. -/
theorem witness_Jumps : (fun (s : State) (a : Word) => s.cfg.variant = .v6502 ∧ a.toNat % 256 = 0xFF ∧ s.cfg.jmpIndFF = .pageWrap ∧
      s.isIo (fullAddr 0#8 a) = false ∧ s.isIo (fullAddr 0#8 (high a ++ 0x00#8)) = false ∧
      s.isIo (fullAddr s.pbr (a + s.x)) = false ∧ s.isIo (fullAddr s.pbr (a + s.x + 1#16)) = false ∧
      s.isIo (fullAddr 0#8 (a + 1#16)) = false ∧ s.isIo (fullAddr 0#8 (a + 2#16)) = false)
      { s6502 with cfg := { s6502.cfg with jmpIndFF := .pageWrap } } 0xFFFF#16 := by decide

/-- S just high enough in emulation mode. -/
theorem witness_SubroutineCalls : (fun s : State => Memory.wf s.mem ∧ ¬ WrapsPage1 (.jsl 0#24) s ∧ ¬ WrapsPage1 (.jsrAbsXInd 0#16) s ∧
      s.isIo (fullAddr s.pbr (0xFFFF#16 + s.x)) = false ∧ s.isIo (fullAddr s.pbr (0xFFFF#16 + s.x + 1#16)) = false)
      { sEmu with sp := 0x0102#16 } := by unfold WrapsPage1; decide

/-- S just low enough in emulation mode. -/
theorem witness_SubroutineReturns : (fun s : State => ¬ WrapsPage1 .rtl s ∧ s.isIo (fullAddr 0#8 (stackUp s.e s.sp 1)) = false ∧
      s.isIo (fullAddr 0#8 (stackUp s.e s.sp 2)) = false ∧ s.isIo (fullAddr 0#8 (stackUp s.e s.sp 3)) = false)
      { sEmu with sp := 0x01FC#16 } := by unfold WrapsPage1; decide

theorem witness_Loads : ldaForm (.ldaImm 0xFFFF#16) = some (.imm 0xFFFF#16) ∧ ldxForm sNat.cfg.ldxIndex (.ldxDpX 0xFF#8) = some (.mem (.dpX 0xFF#8)) ∧
    ldyForm (.ldyAbsX 0xFFFF#16) = some (.mem (.absX 0xFFFF#16)) ∧ (Operand.imm 0xFFFF#16).refusal sNat = none ∧
    (Operand.mem (.dpX 0xFF#8)).refusal sNat = none ∧ (Operand.mem (.absX 0xFFFF#16)).refusal sNat = none := by decide

theorem witness_Stores : Memory.wf sNat.mem ∧ (AddrMode.absX 0xFFFF#16).refusal sNat = none ∧ (AddrMode.dpY 0xFF#8).refusal sNat = none ∧
    (AddrMode.dpX 0xFF#8).refusal sNat = none ∧ staForm (.staAbsX 0xFFFF#16) = some (.absX 0xFFFF#16) ∧
    stxForm (.stxDpY 0xFF#8) = some (.dpY 0xFF#8) ∧ (sNat.xAt sNat.xw).toNat = sNat.x.toNat % 2 ^ sNat.xw.bits ∧
    styForm (.styDpX 0xFF#8) = some (.dpX 0xFF#8) ∧ stzForm (.stzAbsX 0xFFFF#16) = some (.absX 0xFFFF#16) := by decide

theorem witness_IndexTransfers : indexTransferForm sNat .tax = some (true, sNat.c) ∧ indexTransferForm sNat .txy = some (false, sNat.x) := by decide

theorem witness_OtherTransfers : accTransferForm sNat .txa = some (.w16, sNat.x) ∧ accTransferForm sEmu .tsc = some (.w16, sEmu.sp) := by decide

theorem witness_StackPointerTransfers : (Instr.tcs, sEmu.c) ∈ [(Instr.tcs, sEmu.c), (.txs, sEmu.x)] ∧ (Instr.txs, sNat.x) ∈ [(Instr.tcs, sNat.c), (.txs, sNat.x)] := by decide

/-- The pull wraps at the top of page 1. -/
theorem witness_PulledValues : (withIo s6502 0x0200 0x0201).isIo 0x0100#24 = false ∧ (withIo s6502 0x0200 0x0201).isIo 0x0101#24 = false := by decide

/-- S at the last place that is not refused. -/
theorem witness_RegisterPulls : ¬ WrapsPage1 .plb { sEmu with sp := 0x01FE#16 } ∧ ¬ WrapsPage1 .pld { sEmu with sp := 0x01FD#16 } := by unfold WrapsPage1; decide

/-- S at the last place that is not refused, and at page 1 for the others. -/
theorem witness_Pushes : (fun s : State => Memory.wf s.mem ∧ pushForm s (.pea 0xFFFF#16) = some [0xFF#8, 0xFF#8] ∧ ¬ WrapsPage1 (.pea 0xFFFF#16) s ∧
      pushForm s .php = some [s.p] ∧ ¬ WrapsPage1 .php s ∧
      ¬ (s.cfg.variant = .v65816 ∧ s.e = true ∧ low s.d = 0#8 ∧ 0xFE#8 = 0xFF#8) ∧ ¬ (s.e = true ∧ low s.sp = 0#8))
      { sEmu with sp := 0x0101#16 } := by unfold WrapsPage1; decide

theorem witness_SoftwareInterrupts : Memory.wf s6502.mem ∧ vectorPlain 0xFFFE#16 s6502 := ⟨by decide, rfl, rfl⟩

/-- C at 0, so that the move ends. -/
theorem witness_BlockMoveByte : Memory.wf sNat.mem ∧ moveForm (.mvn 0#8 0xFF#8) = some (true, 0#8, 0xFF#8) ∧ moveForm (.mvp 0xFF#8 0#8) = some (false, 0xFF#8, 0#8) := by decide

theorem witness_ReturnUndoesInterrupt : sNat.Inv ∧ PlainStack 4 sNat ∧ s6502.Inv ∧ PlainStack 4 s6502 := ⟨inv_sNat, fun _ _ => ⟨rfl, rfl⟩, inv_s6502, fun _ _ => ⟨rfl, rfl⟩⟩

theorem witness_ReturnUndoesCall : sEmu.Inv ∧ PlainStack 3 sEmu ∧ (sEmu.e = true → 3 ≤ (low sEmu.sp).toNat) := ⟨inv_sEmu, fun _ _ => ⟨rfl, rfl⟩, by decide⟩

theorem witness_PullUndoesPush : sEmu.Inv ∧ PlainStack 2 sEmu ∧ (sEmu.e = true → 1 ≤ (low sEmu.sp).toNat) ∧ (sEmu.e = true → 2 ≤ (low sEmu.sp).toNat) := ⟨inv_sEmu, fun _ _ => ⟨rfl, rfl⟩, by decide, by decide⟩

/-- Two bytes moved down from bank 0 to bank 0xFF, at the end of the banks. -/
theorem witness_BlockMoveCompletes :
    (fun s : State => moveForm (.mvp 0#8 0xFF#8) = some (false, 0#8, 0xFF#8) ∧ Memory.wf s.mem ∧ s.xw = .w16 ∧
      (∀ k ≤ s.c.toNat, s.isIo (fullAddr 0#8 (stepped false s.x k)) = false ∧ Plain s (fullAddr 0xFF#8 (stepped false s.y k))) ∧
      (∀ j ≤ s.c.toNat, ∀ k ≤ s.c.toNat, fullAddr 0#8 (stepped false s.x j) ≠ fullAddr 0xFF#8 (stepped false s.y k)))
      { sNat with a := 1#8, x := 0xFFFF#16, y := 0#16 } :=
  ⟨rfl, by decide, by decide, fun _ _ => ⟨rfl, rfl, rfl⟩, by decide⟩

end Sys2Proof.Tests
end

/-! Encoding against the opcode map: each instruction is spelled by the layout of its opcode's cell (R91, R93, R110), so
bytes that begin with an encoding decode to the instruction (R92, R100). -/

namespace Sys2Proof

/-- Layout `l` spells instruction `i` with opcode byte `op` as the bytes `bs` at widths `w` (R91, R93). -/
inductive Layout.Spells (op : Byte) (w : Widths) : Layout → Instr → List Byte → Prop where
  | implied (i : Instr) : Spells op w (.implied i) i [op]
  | byte (f : Byte → Instr) (b : Byte) : Spells op w (.byte f) (f b) [op, b]
  | word (f : Word → Instr) (v : Word) : Spells op w (.word f) (f v) (op :: wordBytes v)
  | pair (f : Byte → Byte → Instr) (b1 b2 : Byte) : Spells op w (.pair f) (f b1 b2) [op, b1, b2]
  | long (f : Addr → Instr) (a : Addr) : Spells op w (.long f) (f a) (op :: longBytes a)
  | immM (f : Word → Instr) (v : Word) (hf : (f v).immediateFits w = w.m.fits v) :
      Spells op w (.immM f) (f v) (op :: constBytes w.m v)
  | immX (f : Word → Instr) (v : Word) (hf : (f v).immediateFits w = w.x.fits v) :
      Spells op w (.immX f) (f v) (op :: constBytes w.x v)

/-- Every instruction is spelled by the cell of its opcode byte, which names the first variant that has it (R110). -/
theorem encode_spells (w : Widths) (i : Instr) :
    ∃ op l, l.Spells op w i (encode w i) ∧ opcodeCell op = ⟨i.since, l⟩ := by
  cases i
  case php | aslA | phd | clc | incA | tcs | plp | rolA | pld | sec | decA | tsc | rti | pha | lsrA | phk | cli | phy
      | tcd | rts | pla | rorA | rtl | sei | ply | tdc | dey | txa | phb | tya | txs | txy | tay | tax | plb | clv | tsx
      | tyx | iny | dex | wai | cld | phx | stp | inx | nop | xba | sed | plx | xce => exact ⟨_, _, .implied _, rfl⟩
  case tsbAbs | oraAbs | aslAbs | oraAbsY | trbAbs | oraAbsX | aslAbsX | jsrAbs | bitAbs | andAbs | rolAbs | andAbsY
      | bitAbsX | andAbsX | rolAbsX | jmpAbs | eorAbs | lsrAbs | eorAbsY | eorAbsX | lsrAbsX | per | jmpAbsInd | adcAbs
      | rorAbs | adcAbsY | jmpAbsXInd | adcAbsX | rorAbsX | brl | styAbs | staAbs | stxAbs | staAbsY | stzAbs | staAbsX
      | stzAbsX | ldyAbs | ldaAbs | ldxAbs | ldaAbsY | ldyAbsX | ldaAbsX | ldxAbsX | cpyAbs | cmpAbs | decAbs | cmpAbsY
      | jmpAbsIndLong | cmpAbsX | decAbsX | cpxAbs | sbcAbs | incAbs | pea | sbcAbsY | jsrAbsXInd | sbcAbsX
      | incAbsX => exact ⟨_, _, .word _ _, rfl⟩
  case oraLong | oraLongX | jsl | andLong | andLongX | eorLong | jmpLong | eorLongX | adcLong | adcLongX | staLong
      | staLongX | ldaLong | ldaLongX | cmpLong | cmpLongX | sbcLong | sbcLongX => exact ⟨_, _, .long _ _, rfl⟩
  case mvp | mvn => exact ⟨_, _, .pair _ _ _, rfl⟩
  case oraImm | andImm | eorImm | adcImm | bitImm | ldaImm | cmpImm | sbcImm => exact ⟨_, _, .immM _ _ rfl, rfl⟩
  case ldyImm | ldxImm | cpyImm | cpxImm => exact ⟨_, _, .immX _ _ rfl, rfl⟩
  all_goals exact ⟨_, _, .byte _ _, rfl⟩

/-- The bytes `b 0`, `b 1`, ... begin with the list `bs`. -/
def BeginsWith (b : Nat → Byte) (bs : List Byte) : Prop := ∀ k (h : k < bs.length), b k = bs[k]

theorem BeginsWith.tail {b : Nat → Byte} {v : Byte} {bs : List Byte} (h : BeginsWith b (v :: bs)) :
    BeginsWith (fun k => b (k + 1)) bs :=
  fun k hk => h (k + 1) (Nat.succ_lt_succ hk)

/-- Two operand bytes assemble to the word they were cut from (R92). -/
theorem leWord_of_beginsWith {b : Nat → Byte} {v : Word} (h : BeginsWith b (wordBytes v)) : leWord (b 0) (b 1) = v := by
  have h0 : b 0 = Machine.low v := h 0 (by simp [wordBytes])
  have h1 : b 1 = Machine.high v := h 1 (by simp [wordBytes])
  rw [h0, h1]
  exact Machine.append_high_low v

/-- Three operand bytes assemble to the full address they were cut from (R92). -/
theorem leLong_of_beginsWith {b : Nat → Byte} {a : Addr} (h : BeginsWith b (longBytes a)) :
    leLong (b 0) (b 1) (b 2) = a := by
  have h0 : b 0 = a.extractLsb' 0 8 := h 0 (by simp [longBytes])
  have h1 : b 1 = a.extractLsb' 8 8 := h 1 (by simp [longBytes])
  have h2 : b 2 = a.extractLsb' 16 8 := h 2 (by simp [longBytes])
  have hi : a.extractLsb' 16 8 ++ a.extractLsb' 8 8 = a.extractLsb' 8 16 :=
    BitVec.extractLsb'_append_extractLsb'_eq_extractLsb' rfl
  have hall : a.extractLsb' 8 16 ++ a.extractLsb' 0 8 = a.extractLsb' 0 24 :=
    BitVec.extractLsb'_append_extractLsb'_eq_extractLsb' rfl
  calc leLong (b 0) (b 1) (b 2)
    _ = a.extractLsb' 16 8 ++ a.extractLsb' 8 8 ++ a.extractLsb' 0 8 := by rw [h0, h1, h2]; rfl
    _ = a.extractLsb' 0 24 := by rw [hi]; exact hall
    _ = a := BitVec.extractLsb'_eq_self

/-- A constant that fits its width is assembled from the bytes it is encoded as (R93). -/
theorem leConst_of_beginsWith {w : Width} {v : Word} (hv : w.fits v = true) {b : Nat → Byte}
    (h : BeginsWith b (constBytes w v)) : leConst w (b 0) (b 1) = v := by
  cases w with
  | w16 => exact leWord_of_beginsWith h
  | w8 =>
    have h0 : b 0 = Machine.low v := h 0 (by simp [constBytes])
    have hlt : v.toNat < 256 := by simpa [Width.fits, Width.bits] using hv
    rw [leConst, h0]
    apply BitVec.eq_of_toNat_eq
    simp [Machine.low_toNat, Nat.mod_eq_of_lt hlt, Nat.mod_eq_of_lt (show v.toNat < 65536 by omega)]

/-- A spelling has the length of its layout (R93) and begins with its opcode byte. -/
theorem Layout.Spells.length {op : Byte} {w : Widths} {l : Layout} {i : Instr} {bs : List Byte}
    (h : l.Spells op w i bs) : bs.length = l.length w ∧ bs.head? = some op := by
  have hc (w : Width) (v : Word) : (constBytes w v).length = w.bytes := Claims.constBytes_length w v
  cases h <;> simp [Layout.length, wordBytes, longBytes, hc, Nat.add_comm]

/-- The bytes of a spelling assemble to the instruction, if its constant fits (R92, R93). -/
theorem Layout.Spells.assemble {op : Byte} {w : Widths} {l : Layout} {i : Instr} {bs : List Byte}
    (h : l.Spells op w i bs) (hi : i.immediateFits w = true) {b : Nat → Byte} (hb : BeginsWith b bs) :
    l.assemble w (b 1) (b 2) (b 3) = i := by
  cases h with
  | implied i => rfl
  | byte f v => exact congrArg f (hb 1 (by simp))
  | word f v => rw [Layout.assemble, leWord_of_beginsWith hb.tail]
  | pair f v1 v2 => exact congrArg₂ f (hb 1 (by simp)) (hb 2 (by simp))
  | long f a => rw [Layout.assemble, leLong_of_beginsWith hb.tail]
  | immM f v hf => rw [Layout.assemble, leConst_of_beginsWith (hf.symm.trans hi) hb.tail]
  | immX f v hf => rw [Layout.assemble, leConst_of_beginsWith (hf.symm.trans hi) hb.tail]

/-- Bytes that begin with the encoding of a well-formed instruction: the opcode byte's length is that of the encoding,
and the bytes decode to the instruction, whatever follows the encoding (R93, R100). -/
theorem decodeOp_of_beginsWith {v : Variant} {w : Widths} {i : Instr} (hi : i.wellFormed v w = true) {b : Nat → Byte}
    (hb : BeginsWith b (encode w i)) :
    opcodeLength w (b 0) = (encode w i).length ∧ decodeOp v w (b 0) (b 1) (b 2) (b 3) = some i := by
  obtain ⟨op, l, hs, hcell⟩ := encode_spells w i
  obtain ⟨hv, hfit⟩ := Bool.and_eq_true_iff.1 hi
  obtain ⟨hlen, hhead⟩ := hs.length
  have hop : b 0 = op := by
    obtain ⟨h0, h⟩ := List.getElem?_eq_some_iff.1 (List.head?_eq_getElem? ▸ hhead)
    rw [hb 0 h0, h]
  rw [hop, opcodeLength, decodeOp, hcell]
  exact ⟨hlen.symm, by rw [if_pos hv, hs.assemble hfit hb]⟩

theorem encode_length_pos (w : Widths) (i : Instr) : 0 < (encode w i).length := by
  obtain ⟨op, l, hs, _⟩ := encode_spells w i
  exact List.length_pos_of_mem (List.mem_of_head? hs.length.2)

end Sys2Proof

namespace Sys2Proof.Machine

/-- `fetchClear` as a statement about each byte. -/
theorem fetchClear_iff {s : State} {n : Nat} : fetchClear s n = true ↔ ∀ k < n, s.isIo (fetchAddr s k) = false := by
  simp [fetchClear]

/-- The fetch answers the well-formed instruction whose encoding lies at `PBR:PC`, outside `IO_REGIONS` (R85, R100). -/
theorem fetchInstr_of_encoding {s : State} {i : Instr} (hi : i.wellFormed s.cfg.variant s.widths = true)
    (hio : ∀ k < (encode s.widths i).length, s.isIo (fetchAddr s k) = false)
    (hb : BeginsWith (fetchByte s) (encode s.widths i)) : fetchInstr s = .ok i := by
  obtain ⟨hlen, hdec⟩ := decodeOp_of_beginsWith hi hb
  have h1 : fetchClear s 1 = true :=
    fetchClear_iff.2 fun k hk => hio k (Nat.lt_of_lt_of_le hk (encode_length_pos _ i))
  have h2 : fetchClear s (fetchLength s) = true := fetchClear_iff.2 (by rwa [fetchLength, hlen])
  simp [fetchInstr, h1, h2, hdec]

/-- Where the sampling lets the instruction execute, a step performs the instruction fetched (R11, R390). -/
theorem step_of_execute {s : State} {i : Instr} (hs : sample s = .execute) (hf : fetchInstr s = .ok i) :
    step s = exec i s := by
  simp [step, hs, hf]

/-- Settles O6: with no input taken the step fetches, and the bytes at `PBR:PC` decode to the instruction. -/
theorem stepRunsTheInstruction : Obligations.StepRunsTheInstruction := by
  intro s i hreset hrun habort hnmi hirq hwf hbytes
  exact step_of_execute (sample_execute hreset hrun habort hnmi hirq)
    (fetchInstr_of_encoding hwf (fun k hk => (hbytes k hk).1) fun k hk => (hbytes k hk).2)

end Sys2Proof.Machine

/-! What an instruction can change, said once for all of `Instr` (R11): the registers it may write, the few fields
beyond them, and PC where its rule does not set it. -/

namespace Sys2Proof.Machine

/-- Only A, B, X, Y, S, P, memory, the I/O record and the count of draws differ. -/
def RegsTo (s t : State) : Prop :=
  ∃ a b x y q p m l k,
    t = { s with a := a, b := b, x := x, y := y, sp := q, p := p, mem := m, ioLog := l, draws := k }

/-- The fields of `RegsTo`, memory and the record apart. -/
def registers : List Field := [.a, .b, .x, .y, .sp, .p]

namespace RegsTo

variable {s t u : State}

theorem refl (s : State) : RegsTo s s := ⟨_, _, _, _, _, _, _, _, _, rfl⟩

theorem trans (h : RegsTo s t) (h' : RegsTo t u) : RegsTo s u := by
  obtain ⟨a, b, x, y, q, p, m, l, k, rfl⟩ := h
  obtain ⟨a', b', x', y', q', p', m', l', k', rfl⟩ := h'
  exact ⟨_, _, _, _, _, _, _, _, _, rfl⟩

theorem sameBut (h : RegsTo s t) : SameBut registers s t := by
  obtain ⟨a, b, x, y, q, p, m, l, k, rfl⟩ := h
  intro f hf
  cases f <;> simp [registers] at hf <;> rfl

theorem pc (h : RegsTo s t) : t.pc = s.pc := by obtain ⟨a, b, x, y, q, p, m, l, k, rfl⟩ := h; rfl

/-! The updates of the state that stay within the registers. -/

theorem reads (h : ReadsTo s t) : RegsTo s t := by obtain ⟨l, k, rfl⟩ := h; exact ⟨_, _, _, _, _, _, _, _, _, rfl⟩

theorem writeBytes (l : List Store) (s : State) : RegsTo s (writeBytes l s) := by
  obtain ⟨m, l, h⟩ := writeBytes_writesTo l s; exact ⟨_, _, _, _, _, _, _, _, _, h⟩

theorem pushBytes (l : List Byte) (s : State) : RegsTo s (pushBytes l s) := by
  obtain ⟨m, k, h⟩ := pushBytes_state l s; exact ⟨_, _, _, _, _, _, _, _, _, h⟩

theorem push8 (v : Byte) (s : State) : RegsTo s (push8 v s) := pushBytes [v] s

theorem push16 (v : Word) (s : State) : RegsTo s (push16 v s) := pushBytes [high v, low v] s

theorem pushAt (w : Width) (v : BitVec w.bits) (s : State) : RegsTo s (pushAt w v s) := by
  rw [pushAt_eq]; exact pushBytes _ s

theorem pull8 {v : Byte} (h : pull8 s = (v, t)) : RegsTo s t := by
  obtain ⟨l, k, rfl⟩ := pull8_state h; exact ⟨_, _, _, _, _, _, _, _, _, rfl⟩

theorem pull16 {v : Word} (h : pull16 s = (v, t)) : RegsTo s t := by
  obtain ⟨l, k, rfl⟩ := pull16_state h; exact ⟨_, _, _, _, _, _, _, _, _, rfl⟩

theorem pullAt {w : Width} {v : BitVec w.bits} (h : pullAt w s = (v, t)) : RegsTo s t := by
  obtain ⟨l, k, rfl⟩ := pullAt_state h; exact ⟨_, _, _, _, _, _, _, _, _, rfl⟩

theorem setP (s : State) (q : Byte) : RegsTo s { s with p := q } := ⟨_, _, _, _, _, _, _, _, _, rfl⟩

theorem setFlagC (s : State) (v : Bool) : RegsTo s (s.setFlagC v) := setP s _

theorem setFlagV (s : State) (v : Bool) : RegsTo s (s.setFlagV v) := setP s _

theorem setNZ (s : State) {n : Nat} (v : BitVec n) : RegsTo s (s.setNZ v) := setP s _

theorem setAcc (s : State) (w : Width) (v : BitVec w.bits) : RegsTo s (s.setAcc w v) := by
  cases w <;> exact ⟨_, _, _, _, _, _, _, _, _, rfl⟩

theorem setX (s : State) {n : Nat} (v : BitVec n) : RegsTo s (s.setX v) := ⟨_, _, _, _, _, _, _, _, _, rfl⟩

theorem setY (s : State) {n : Nat} (v : BitVec n) : RegsTo s (s.setY v) := ⟨_, _, _, _, _, _, _, _, _, rfl⟩

theorem setDecimalNVZ (s : State) {n : Nat} (r : BitVec n) : RegsTo s (s.setDecimalNVZ r) := by
  unfold State.setDecimalNVZ
  split <;> exact ⟨_, _, _, _, _, _, _, _, _, rfl⟩

theorem setS (s : State) (v : Word) : RegsTo s (s.setS v) := ⟨_, _, _, _, _, _, _, _, _, rfl⟩

theorem restoreStatus (v : Byte) (s : State) : RegsTo s (restoreStatus v s) := by
  obtain ⟨x, y, h⟩ := restoreStatus_state v s; exact ⟨_, _, _, _, _, _, _, _, _, h⟩

theorem setStatusBits (k : Byte) (s : State) : RegsTo s (setStatusBits k s) := by
  unfold Machine.setStatusBits
  simp only
  split <;> exact ⟨_, _, _, _, _, _, _, _, _, rfl⟩

end RegsTo

/-- If the outcome is a next state, it differs from `s` in the registers, and PC is `n` further (R11). -/
def Advances (s : State) (n : Nat) (r : Result) : Prop := ∀ t, r = .next t → ∃ u, RegsTo s u ∧ t = u.advance n

section
variable {s : State} {n : Nat}

theorem Advances.next {u : State} (h : RegsTo s u) : Advances s n (.next (u.advance n)) := by
  rintro t ⟨⟩; exact ⟨u, h, rfl⟩

theorem Advances.refused (r : Refusal) : Advances s n (.refused r) := by rintro t ⟨⟩

/-- An instruction that reads an operand advances if what it does with the value does. -/
theorem Advances.withOperand {w : Width} {o : Operand} {k : BitVec w.bits → State → Result}
    (hk : ∀ m s1, Advances s1 n (k m s1)) : Advances s n (withOperand w o s k) := by
  rcases withOperand_cases w o s k with ⟨r, _, h⟩ | ⟨_, m, s1, _, hr, h⟩
  · rw [h]; exact .refused r
  · rw [h]
    intro t ht
    obtain ⟨u, hu, rfl⟩ := hk m s1 t ht
    exact ⟨u, (RegsTo.reads hr).trans hu, rfl⟩

theorem Advances.store (w : Width) (m : AddrMode) (v : BitVec w.bits) : Advances s m.length (store w m v s) := by
  rcases store_cases w m v s with ⟨r, _, h⟩ | ⟨_, l, s1, _, hr, h⟩
  · rw [h]; exact .refused r
  · rw [h]; exact .next ((RegsTo.reads hr).trans (.writeBytes _ _))

theorem Advances.modify {w : Width} {m : AddrMode} {f : BitVec w.bits → State → BitVec w.bits × State}
    (hf : ∀ v t, ∃ q, (f v t).2 = { t with p := q }) : Advances s m.length (modify w m s f) := by
  rcases modify_cases w m s f hf with ⟨r, _, h⟩ | ⟨_, l, s1, v, s2, _, hr, _, hr', h⟩
  · rw [h]; exact .refused r
  · rw [h]
    obtain ⟨q, hq⟩ := hf v s2
    rw [hq]
    exact .next ((RegsTo.reads (hr.trans hr')).trans ((RegsTo.setP s2 q).trans (.writeBytes _ _)))

theorem Advances.modifyAcc {w : Width} {f : BitVec w.bits → State → BitVec w.bits × State}
    (hf : ∀ v t, ∃ q, (f v t).2 = { t with p := q }) : Advances s 1 (modifyAcc w s f) := by
  obtain ⟨q, hq⟩ := hf (s.acc w) s
  exact .next (RegsTo.trans (hq ▸ RegsTo.setP s q) (.setAcc _ w _))

/-! The functions that `modify` and `modifyAcc` are given change P alone. -/

theorem decrement_state {n : Nat} (v : BitVec n) (t : State) :
    ∃ q, (decrement v t).2 = { t with p := q } := ⟨_, rfl⟩

theorem increment_state {n : Nat} (v : BitVec n) (t : State) :
    ∃ q, (increment v t).2 = { t with p := q } := ⟨_, rfl⟩

theorem shifted_state {n : Nat} (f : BitVec n → Bool → BitVec n × Bool) (v : BitVec n) (t : State) :
    ∃ q, (shifted f v t).2 = { t with p := q } := ⟨_, rfl⟩

theorem testReset_state {w : Width} (v : BitVec w.bits) (t : State) : ∃ q, (testReset w v t).2 = { t with p := q } :=
  ⟨_, rfl⟩

theorem testSet_state {w : Width} (v : BitVec w.bits) (t : State) : ∃ q, (testSet w v t).2 = { t with p := q } :=
  ⟨_, rfl⟩

/-! The meanings that a family of operand forms shares. -/

theorem adc_advances (o : Operand) : Advances s (o.length s.mw) (adc o s) := by
  refine .withOperand fun m s1 => ?_
  unfold adcValue
  split
  · split
    · exact .next (((RegsTo.setDecimalNVZ s1 _).trans (.setFlagC _ _)).trans (.setAcc _ _ _))
    · exact .refused _
  · exact .next ((((RegsTo.setNZ s1 _).trans (.setFlagV _ _)).trans (.setFlagC _ _)).trans (.setAcc _ _ _))

theorem sbc_advances (o : Operand) : Advances s (o.length s.mw) (sbc o s) := by
  refine .withOperand fun m s1 => ?_
  unfold sbcValue
  split
  · split
    · exact .next (((RegsTo.setDecimalNVZ s1 _).trans (.setFlagC _ _)).trans (.setAcc _ _ _))
    · exact .refused _
  · exact .next ((((RegsTo.setNZ s1 _).trans (.setFlagV _ _)).trans (.setFlagC _ _)).trans (.setAcc _ _ _))

theorem loadX_advances (o : Operand) : Advances s (o.length s.xw) (loadX o s) :=
  .withOperand fun _ s1 => .next ((RegsTo.setNZ s1 _).trans (.setX _ _))

theorem loadY_advances (o : Operand) : Advances s (o.length s.xw) (loadY o s) :=
  .withOperand fun _ s1 => .next ((RegsTo.setNZ s1 _).trans (.setY _ _))

theorem loadA_advances (o : Operand) : Advances s (o.length s.mw) (loadA o s) :=
  .withOperand fun _ s1 => .next ((RegsTo.setNZ s1 _).trans (.setAcc _ _ _))

theorem andA_advances (o : Operand) : Advances s (o.length s.mw) (andA o s) :=
  .withOperand fun _ s1 => .next ((RegsTo.setNZ s1 _).trans (.setAcc _ _ _))

theorem eorA_advances (o : Operand) : Advances s (o.length s.mw) (eorA o s) :=
  .withOperand fun _ s1 => .next ((RegsTo.setNZ s1 _).trans (.setAcc _ _ _))

theorem oraA_advances (o : Operand) : Advances s (o.length s.mw) (oraA o s) :=
  .withOperand fun _ s1 => .next ((RegsTo.setNZ s1 _).trans (.setAcc _ _ _))

theorem cmpA_advances (o : Operand) : Advances s (o.length s.mw) (cmpA o s) :=
  .withOperand fun _ s1 => .next (.setP s1 _)

theorem cmpX_advances (o : Operand) : Advances s (o.length s.xw) (cmpX o s) :=
  .withOperand fun _ s1 => .next (.setP s1 _)

theorem cmpY_advances (o : Operand) : Advances s (o.length s.xw) (cmpY o s) :=
  .withOperand fun _ s1 => .next (.setP s1 _)

theorem bitMem_advances (m : AddrMode) : Advances s m.length (bitMem m s) :=
  .withOperand fun _ s1 => .next (.setP s1 _)

/-- Opcodes BE and B6, whatever their index register is (R272). -/
theorem loadXIndexed_advances {byX byY : AddrMode} (h : byY.length = byX.length) :
    Advances s byX.length (loadXIndexed byX byY s) := by
  unfold loadXIndexed
  split
  · exact loadX_advances (.mem byX)
  · exact h ▸ loadX_advances (.mem byY)
  · exact .refused _

end

end Sys2Proof.Machine

/-! Every instruction. -/

namespace Sys2Proof.Machine

open Sys2Proof.Claims

/-- The fields beyond the registers that an instruction may write: D, DBR, PBR, e and the run state each have few
writers (R24, R25, R26, R33, R45). -/
def beyondRegisters : Instr → List Field
  | .tcd | .pld => [.d]
  | .plb | .mvn _ _ | .mvp _ _ => [.dbr]
  | .xce => [.e]
  | .wai | .stp => [.run]
  | .jmpLong _ | .jmpAbsIndLong _ | .jsl _ | .rtl | .rti => [.pbr]
  | .brk _ | .cop _ => [.pbr, .run]
  | _ => []

/-- The frame of an instruction: only the registers and `beyondRegisters` differ, and PC is `PCnext` unless its rule
sets it (R11, R27). -/
structure Framed (i : Instr) (s t : State) : Prop where
  same : SameBut (registers ++ beyondRegisters i) s t
  pc : setsPC i = false → t.pc = pcNext i s

/-- An instruction whose meaning only changes registers and advances by its length is framed. -/
theorem framed_of_advances {i : Instr} {s t : State} {n : Nat} {r : Result} (h : exec i s = .next t)
    (hi : exec i s = r ∧ (encode s.widths i).length = n) (hr : Advances s n r) : Framed i s t := by
  obtain ⟨he, hlen⟩ := hi
  obtain ⟨u, hu, rfl⟩ := hr t (he ▸ h)
  refine ⟨fun f hf => ?_, fun _ => ?_⟩
  · have hu := hu.sameBut f fun hm => hf (List.mem_append_left _ hm)
    cases f <;> exact hu
  · rw [pcNext_eq hlen, State.advance_pc, hu.pc]

/-- As `framed_of_advances`, for a meaning that is the next state itself. -/
theorem framed_of_next {i : Instr} {s t u : State} {n : Nat} (h : .next (u.advance n) = (.next t : Result))
    (he : exec i s = .next (u.advance n)) (hlen : (encode s.widths i).length = n) (hu : RegsTo s u) : Framed i s t :=
  framed_of_advances (he.trans h) ⟨he, hlen⟩ (.next hu)

/-- Registers first, then fields of `l`: the frame has both. -/
theorem RegsTo.sameBut_trans {l : List Field} {s u t : State} (h : RegsTo s u) (h' : SameBut l u t) :
    SameBut (registers ++ l) s t :=
  (h.sameBut.mono (List.subset_append_left _ _)).trans (h'.mono (List.subset_append_right _ _))

/-! The instructions that set D, DBR, e or the run state. -/

section
variable {s t : State}

theorem sameBut_advance_d (u : State) (v : Word) (n : Nat) : SameBut [.d] u (State.advance { u with d := v } n) := by
  intro f hf
  cases f <;> simp at hf <;> rfl

theorem sameBut_advance_dbr (u : State) (v : Byte) (n : Nat) :
    SameBut [.dbr] u (State.advance { u with dbr := v } n) := by
  intro f hf
  cases f <;> simp at hf <;> rfl

theorem sameBut_advance_e (u : State) (v : Bool) (n : Nat) : SameBut [.e] u (State.advance { u with e := v } n) := by
  intro f hf
  cases f <;> simp at hf <;> rfl

theorem sameBut_advance_run (u : State) (v : RunState) (n : Nat) :
    SameBut [.run] u (State.advance { u with run := v } n) := by
  intro f hf
  cases f <;> simp at hf <;> rfl

theorem execTcd_framed (h : execTcd s = .next t) : Framed .tcd s t := by
  cases h
  exact ⟨(RegsTo.setNZ s s.c).sameBut_trans (sameBut_advance_d _ _ _), fun _ => rfl⟩

theorem execPld_framed (h : execPld s = .next t) : Framed .pld s t := by
  unfold execPld at h
  split at h
  · cases h
  · rcases hp : pull16 s with ⟨v, s1⟩
    rw [hp] at h
    cases h
    have hs1 := RegsTo.pull16 hp
    exact ⟨(hs1.trans (.setNZ s1 v)).sameBut_trans (sameBut_advance_d _ _ _),
      fun _ => congrArg (· + BitVec.ofNat 16 1) hs1.pc⟩

theorem execPlb_framed (h : execPlb s = .next t) : Framed .plb s t := by
  unfold execPlb at h
  split at h
  · cases h
  · rcases hp : pull8 s with ⟨v, s1⟩
    rw [hp] at h
    cases h
    have hs1 := RegsTo.pull8 hp
    exact ⟨(hs1.trans (.setNZ s1 v)).sameBut_trans (sameBut_advance_dbr _ _ _),
      fun _ => congrArg (· + BitVec.ofNat 16 1) hs1.pc⟩

theorem execXce_framed (h : execXce s = .next t) : Framed .xce s t := by
  obtain ⟨q, x, y, z, hx⟩ := exchangeCarryEmulation_state s
  have hs : RegsTo s { s with p := q, x := x, y := y, sp := z } := ⟨_, _, _, _, _, _, _, _, _, rfl⟩
  rw [execXce, hx] at h
  cases h
  exact ⟨hs.sameBut_trans (sameBut_advance_e _ _ _), fun _ => rfl⟩

theorem execWai_framed (h : execWai s = .next t) : Framed .wai s t := by
  cases h
  exact ⟨(RegsTo.refl s).sameBut_trans (sameBut_advance_run _ _ _), fun _ => rfl⟩

theorem execStp_framed (h : execStp s = .next t) : Framed .stp s t := by
  cases h
  exact ⟨(RegsTo.refl s).sameBut_trans (sameBut_advance_run _ _ _), fun _ => rfl⟩

/-! The control transfers and the block moves: PC is theirs to set. -/

theorem framed_of_setsPC {i : Instr} (hi : setsPC i = true) (hs : SameBut (registers ++ beyondRegisters i) s t) :
    Framed i s t := ⟨hs, fun hn => absurd (hi.symm.trans hn) Bool.noConfusion⟩

theorem RegsTo.jump {u : State} (h : RegsTo s u) (l : List Field) (a : Word) : SameBut (registers ++ l) s (u.jump a) :=
  h.sameBut_trans fun f _ => by cases f <;> rfl

theorem RegsTo.advance {u : State} (h : RegsTo s u) (l : List Field) (n : Nat) :
    SameBut (registers ++ l) s (u.advance n) :=
  h.sameBut_trans fun f _ => by cases f <;> rfl

theorem sameBut_jumpLong (u : State) (k : Byte) (a : Word) : SameBut [.pbr] u (u.jumpLong k a) := by
  intro f hf
  cases f <;> simp at hf <;> rfl

theorem RegsTo.jumpLong {u : State} (h : RegsTo s u) (k : Byte) (a : Word) :
    SameBut (registers ++ [.pbr]) s (u.jumpLong k a) :=
  h.sameBut_trans (sameBut_jumpLong u k a)

theorem branchIf_sameBut {c : Bool} {k : Byte} (l : List Field) (h : branchIf c k s = .next t) :
    SameBut (registers ++ l) s t := by
  unfold branchIf at h
  cases h
  split
  · exact (RegsTo.refl s).jump _ _
  · exact (RegsTo.refl s).advance _ _

theorem branchForm_framed {i : Instr} {b : Flag × Bool × Byte} (hf : branchForm i = some b) (h : exec i s = .next t) :
    Framed i s t := by
  unfold branchForm at hf
  split at hf <;> cases hf <;> exact framed_of_setsPC rfl (branchIf_sameBut _ h)

theorem execJmpAbsInd_framed {a : Word} (h : execJmpAbsInd a s = .next t) : Framed (.jmpAbsInd a) s t := by
  unfold execJmpAbsInd at h
  split at h
  · cases h
  · rcases hr : read16 (absIndLoc a s) s with ⟨v, s1⟩
    rw [hr] at h
    cases h
    exact framed_of_setsPC rfl ((RegsTo.reads (read16_readsTo hr)).jump _ _)

theorem execJmpAbsXInd_framed {a : Word} (h : execJmpAbsXInd a s = .next t) : Framed (.jmpAbsXInd a) s t := by
  unfold execJmpAbsXInd at h
  rcases hr : read16 (absXIndLoc a s) s with ⟨v, s1⟩
  rw [hr] at h
  cases h
  exact framed_of_setsPC rfl ((RegsTo.reads (read16_readsTo hr)).jump _ _)

theorem execJmpAbsIndLong_framed {a : Word} (h : execJmpAbsIndLong a s = .next t) :
    Framed (.jmpAbsIndLong a) s t := by
  unfold execJmpAbsIndLong at h
  rcases hr : read24 (absIndLongLoc a) s with ⟨v, s1⟩
  rw [hr] at h
  cases h
  exact framed_of_setsPC rfl ((RegsTo.reads (read24_readsTo hr)).jumpLong _ _)

theorem execJsrAbsXInd_framed {a : Word} (h : execJsrAbsXInd a s = .next t) : Framed (.jsrAbsXInd a) s t := by
  unfold execJsrAbsXInd at h
  split at h
  · cases h
  · rcases hr : read16 (absXIndLoc a s) (push16 (s.pc + 2#16) s) with ⟨v, s1⟩
    rw [hr] at h
    cases h
    exact framed_of_setsPC rfl (((RegsTo.push16 _ s).trans (.reads (read16_readsTo hr))).jump _ _)

theorem execJsl_framed {a : Addr} (h : execJsl a s = .next t) : Framed (.jsl a) s t := by
  unfold execJsl at h
  split at h
  · cases h
  · cases h
    exact framed_of_setsPC rfl (((RegsTo.push8 s.pbr s).trans (.push16 (s.pc + 3#16) _)).jumpLong _ _)

theorem execRts_framed (h : execRts s = .next t) : Framed .rts s t := by
  unfold execRts at h
  rcases hp : pull16 s with ⟨v, s1⟩
  rw [hp] at h
  cases h
  exact framed_of_setsPC rfl ((RegsTo.pull16 hp).jump _ _)

theorem execRtl_framed (h : execRtl s = .next t) : Framed .rtl s t := by
  unfold execRtl at h
  split at h
  · cases h
  · rcases hp : pull16 s with ⟨v, s1⟩
    rcases hk : pull8 s1 with ⟨k, s2⟩
    simp only [hp, hk] at h
    cases h
    exact framed_of_setsPC rfl (((RegsTo.pull16 hp).trans (.pull8 hk)).jumpLong _ _)

theorem execRti_framed (h : execRti s = .next t) : Framed .rti s t := by
  cases h
  obtain ⟨v, s1, a, s2, hv, ha, hr⟩ := returnFromInterrupt_cases s
  have hs2 := ((RegsTo.pull8 hv).trans (.restoreStatus v s1)).trans (.pull16 ha)
  rcases hr with ⟨_, hr⟩ | ⟨_, k, s3, hk, hr⟩
  · exact framed_of_setsPC rfl (hr ▸ hs2.jump _ _)
  · exact framed_of_setsPC rfl (hr ▸ (hs2.trans (.pull8 hk)).jumpLong _ _)

/-- An entry by a software interrupt: PBR and the run state are set too (R386). -/
theorem interrupt_sameBut (kind : InterruptKind) (ret : Word) (s : State) :
    SameBut (registers ++ [.pbr, .run]) s (interrupt kind ret s) := by
  obtain ⟨m, l, k, q, target, h⟩ := interrupt_state kind ret s
  rw [h]
  intro f hf
  cases f <;> simp [registers] at hf <;> rfl

theorem moveByte_sameBut (delta : Int) (k1 k2 : Byte) (s : State) :
    SameBut (registers ++ [.dbr]) s (moveByte delta k1 k2 s) := by
  obtain ⟨v, s1, _, hr, m, l, _, h⟩ := moveByte_cases delta k1 k2 s
  rw [h]
  refine (RegsTo.reads hr).sameBut.mono (List.subset_append_left _ _) |>.trans fun f hf => ?_
  cases f <;> simp [registers] at hf <;> rfl

/-! The pulls into registers, and the pushes that can be refused. -/

theorem execPla_advances : Advances s 1 (execPla s) := by
  rcases hp : pullAt s.mw s with ⟨v, s1⟩
  rw [execPla, hp]
  exact .next ((RegsTo.pullAt hp).trans ((RegsTo.setNZ s1 v).trans (.setAcc _ _ v)))

theorem execPlx_advances : Advances s 1 (execPlx s) := by
  rcases hp : pullAt s.xw s with ⟨v, s1⟩
  rw [execPlx, hp]
  exact .next ((RegsTo.pullAt hp).trans ((RegsTo.setNZ s1 v).trans (.setX _ v)))

theorem execPly_advances : Advances s 1 (execPly s) := by
  rcases hp : pullAt s.xw s with ⟨v, s1⟩
  rw [execPly, hp]
  exact .next ((RegsTo.pullAt hp).trans ((RegsTo.setNZ s1 v).trans (.setY _ v)))

theorem execPlp_advances : Advances s 1 (execPlp s) := by
  rcases hp : pull8 s with ⟨v, s1⟩
  rw [execPlp, hp]
  exact .next ((RegsTo.pull8 hp).trans (.restoreStatus v s1))

theorem execBitImm_framed {v : Word} (h : execBitImm v s = .next t) : Framed (.bitImm v) s t := by
  have hlen : (encode s.widths (.bitImm v)).length = Operand.length s.mw (.imm v) := by
    simp [encode, constBytes_length, State.widths, Operand.length, Nat.add_comm]
  exact framed_of_advances (r := execBitImm v s) h ⟨rfl, hlen⟩ (.withOperand fun _ s1 => .next (.setP s1 _))

theorem execPea_advances (a : Word) : Advances s 3 (execPea a s) := by
  unfold execPea
  split
  · exact .refused _
  · exact .next (.push16 a s)

theorem execPer_advances (k : Word) : Advances s 3 (execPer k s) := by
  unfold execPer
  split
  · exact .refused _
  · exact .next (.push16 _ s)

theorem execPhd_advances : Advances s 1 (execPhd s) := by
  unfold execPhd
  split
  · exact .refused _
  · exact .next (.push16 s.d s)

theorem execPei_advances (k : Byte) : Advances s 2 (execPei k s) := by
  unfold execPei
  split
  · exact .refused _
  · split
    · exact .refused _
    · rcases hr : read16 (dpLocNew k s) s with ⟨v, s1⟩
      exact .next ((RegsTo.reads (read16_readsTo hr)).trans (.push16 v s1))

end

/-- Every instruction is framed (R11, R27): families by their operand form, the others by their own meaning. -/
theorem exec_framed {i : Instr} {s t : State} (h : exec i s = .next t) : Framed i s t := by
  cases i
  case adcDpXInd | adcSr | adcDp | adcDpIndLong | adcImm | adcAbs | adcLong | adcDpIndY | adcDpInd | adcSrIndY |
      adcDpX | adcDpIndLongY | adcAbsY | adcAbsX | adcLongX =>
    exact framed_of_advances h (adcForm_exec rfl) (adc_advances _)
  case sbcDpXInd | sbcSr | sbcDp | sbcDpIndLong | sbcImm | sbcAbs | sbcLong | sbcDpIndY | sbcDpInd | sbcSrIndY |
      sbcDpX | sbcDpIndLongY | sbcAbsY | sbcAbsX | sbcLongX =>
    exact framed_of_advances h (sbcForm_exec rfl) (sbc_advances _)
  case andDpXInd | andSr | andDp | andDpIndLong | andImm | andAbs | andLong | andDpIndY | andDpInd | andSrIndY |
      andDpX | andDpIndLongY | andAbsY | andAbsX | andLongX =>
    exact framed_of_advances h (andForm_exec rfl) (andA_advances _)
  case eorDpXInd | eorSr | eorDp | eorDpIndLong | eorImm | eorAbs | eorLong | eorDpIndY | eorDpInd | eorSrIndY |
      eorDpX | eorDpIndLongY | eorAbsY | eorAbsX | eorLongX =>
    exact framed_of_advances h (eorForm_exec rfl) (eorA_advances _)
  case oraDpXInd | oraSr | oraDp | oraDpIndLong | oraImm | oraAbs | oraLong | oraDpIndY | oraDpInd | oraSrIndY |
      oraDpX | oraDpIndLongY | oraAbsY | oraAbsX | oraLongX =>
    exact framed_of_advances h (oraForm_exec rfl) (oraA_advances _)
  case bitDp | bitAbs | bitDpX | bitAbsX =>
    exact framed_of_advances h ((bitForm_exec rfl).imp_right And.left) (bitMem_advances _)
  case cmpDpXInd | cmpSr | cmpDp | cmpDpIndLong | cmpImm | cmpAbs | cmpLong | cmpDpIndY | cmpDpInd | cmpSrIndY |
      cmpDpX | cmpDpIndLongY | cmpAbsY | cmpAbsX | cmpLongX =>
    exact framed_of_advances h (cmpForm_exec rfl) (cmpA_advances _)
  case cpxImm | cpxDp | cpxAbs => exact framed_of_advances h (cpxForm_exec rfl) (cmpX_advances _)
  case cpyImm | cpyDp | cpyAbs => exact framed_of_advances h (cpyForm_exec rfl) (cmpY_advances _)
  case ldaDpXInd | ldaSr | ldaDp | ldaDpIndLong | ldaImm | ldaAbs | ldaLong | ldaDpIndY | ldaDpInd | ldaSrIndY |
      ldaDpX | ldaDpIndLongY | ldaAbsY | ldaAbsX | ldaLongX =>
    exact framed_of_advances h (ldaForm_exec rfl) (loadA_advances _)
  case ldyImm | ldyDp | ldyAbs | ldyDpX | ldyAbsX =>
    exact framed_of_advances h (ldyForm_exec rfl) (loadY_advances _)
  case staDpXInd | staSr | staDp | staDpIndLong | staAbs | staLong | staDpIndY | staDpInd | staSrIndY | staDpX |
      staDpIndLongY | staAbsY | staAbsX | staLongX =>
    exact framed_of_advances h (staForm_exec rfl) (.store _ _ _)
  case stxDp | stxAbs | stxDpY => exact framed_of_advances h (stxForm_exec rfl) (.store _ _ _)
  case styDp | styAbs | styDpX => exact framed_of_advances h (styForm_exec rfl) (.store _ _ _)
  case stzDp | stzDpX | stzAbs | stzAbsX => exact framed_of_advances h (stzForm_exec rfl) (.store _ _ _)
  case decDp | decAbs | decDpX | decAbsX =>
    exact framed_of_advances h ((decForm_exec rfl).imp_right And.left) (.modify decrement_state)
  case incDp | incAbs | incDpX | incAbsX =>
    exact framed_of_advances h ((incForm_exec rfl).imp_right And.left) (.modify increment_state)
  case trbDp | trbAbs =>
    exact framed_of_advances h ((trbForm_exec rfl).imp_right And.left) (.modify testReset_state)
  case tsbDp | tsbAbs => exact framed_of_advances h ((tsbForm_exec rfl).imp_right And.left) (.modify testSet_state)
  case aslDp | aslAbs | aslDpX | aslAbsX | lsrDp | lsrAbs | lsrDpX | lsrAbsX | rolDp | rolAbs | rolDpX | rolAbsX |
      rorDp | rorAbs | rorDpX | rorAbsX =>
    exact framed_of_advances h ((shiftForm_exec rfl).imp_right And.left) (.modify (shifted_state _))
  case aslA | lsrA | rolA | rorA =>
    exact framed_of_advances h (shiftAccForm_exec rfl) (.modifyAcc (shifted_state _))
  case ldxImm | ldxDp | ldxAbs => exact framed_of_advances h (ldxForm_exec rfl) (loadX_advances _)
  case tcd => exact execTcd_framed h
  case pld => exact execPld_framed h
  case plb => exact execPlb_framed h
  case xce => exact execXce_framed h
  case wai => exact execWai_framed h
  case stp => exact execStp_framed h
  case bcc | bcs | beq | bne | bmi | bpl | bvc | bvs => exact branchForm_framed rfl h
  case bra | brl | jmpAbs => cases h; exact framed_of_setsPC rfl ((RegsTo.refl s).jump _ _)
  case jmpLong => cases h; exact framed_of_setsPC rfl ((RegsTo.refl s).jumpLong _ _)
  case jsrAbs => cases h; exact framed_of_setsPC rfl ((RegsTo.push16 _ s).jump _ _)
  case jmpAbsInd => exact execJmpAbsInd_framed h
  case jmpAbsXInd => exact execJmpAbsXInd_framed h
  case jmpAbsIndLong => exact execJmpAbsIndLong_framed h
  case jsrAbsXInd => exact execJsrAbsXInd_framed h
  case jsl => exact execJsl_framed h
  case rts => exact execRts_framed h
  case rtl => exact execRtl_framed h
  case rti => exact execRti_framed h
  case brk | cop => cases h; exact framed_of_setsPC rfl (interrupt_sameBut _ _ _)
  case mvn | mvp => cases h; exact framed_of_setsPC rfl (moveByte_sameBut _ _ _ _)
  case clc | sec | cld | sed | cli | sei | clv | rep => exact framed_of_next h rfl rfl (.setP s _)
  case sep => exact framed_of_next h rfl rfl (.setStatusBits _ s)
  case nop | wdm => exact framed_of_next h rfl rfl (.refl s)
  case dex | inx | tax | tsx | tyx => exact framed_of_next h rfl rfl ((RegsTo.setNZ s _).trans (.setX _ _))
  case dey | iny | tay | txy => exact framed_of_next h rfl rfl ((RegsTo.setNZ s _).trans (.setY _ _))
  case txa | tya => exact framed_of_next h rfl rfl ((RegsTo.setNZ s _).trans (.setAcc _ _ _))
  case tdc | tsc => exact framed_of_next h rfl rfl ((RegsTo.setNZ s _).trans (.setAcc _ .w16 _))
  case pha | phx | phy => exact framed_of_next h rfl rfl (.pushAt _ _ s)
  case phb | phk | php => exact framed_of_next h rfl rfl (.push8 _ s)
  case tcs | txs => exact framed_of_next h rfl rfl (.setS s _)
  case xba => exact framed_of_next h rfl rfl ⟨_, _, _, _, _, _, _, _, _, rfl⟩
  case pla => exact framed_of_advances h ⟨rfl, rfl⟩ execPla_advances
  case plx => exact framed_of_advances h ⟨rfl, rfl⟩ execPlx_advances
  case ply => exact framed_of_advances h ⟨rfl, rfl⟩ execPly_advances
  case plp => exact framed_of_advances h ⟨rfl, rfl⟩ execPlp_advances
  case pea => exact framed_of_advances h ⟨rfl, rfl⟩ (execPea_advances _)
  case per => exact framed_of_advances h ⟨rfl, rfl⟩ (execPer_advances _)
  case phd => exact framed_of_advances h ⟨rfl, rfl⟩ execPhd_advances
  case pei => exact framed_of_advances h ⟨rfl, rfl⟩ (execPei_advances _)
  case ldxDpX => exact framed_of_advances h ⟨rfl, rfl⟩ (loadXIndexed_advances (byY := .dpY _) rfl)
  case ldxAbsX => exact framed_of_advances h ⟨rfl, rfl⟩ (loadXIndexed_advances (byY := .absY _) rfl)
  case incA => exact framed_of_advances h ⟨rfl, rfl⟩ (.modifyAcc increment_state)
  case decA => exact framed_of_advances h ⟨rfl, rfl⟩ (.modifyAcc decrement_state)
  case bitImm => exact execBitImm_framed h

/-! What no instruction writes. -/

/-- The fields only the host writes, or a reset or an NMI on its behalf (R6, R46, R383). -/
def hostFields : List Field := [.cfg, .irqLine, .nmiPending, .resetLine, .abortPending]

/-- `beyondRegisters` names no field of the host's. -/
theorem beyondRegisters_all_notMem_hostFields (i : Instr) :
    (beyondRegisters i).all (fun f => decide (f ∉ hostFields)) = true := by
  cases i <;> rfl

/-- `beyondRegisters` names PBR for control transfers only (R26). -/
theorem setsPC_or_pbr_notMem (i : Instr) : (setsPC i || decide (.pbr ∉ beyondRegisters i)) = true := by
  cases i <;> rfl

theorem registers_notMem_of_mem_hostFields : ∀ f ∈ hostFields, f ∉ registers := by decide

/-- No instruction writes a field of the host's (R6, R46). -/
theorem exec_hostFields {i : Instr} {s t : State} (h : exec i s = .next t) {f : Field} (hf : f ∈ hostFields) :
    f.same s t := by
  refine (exec_framed h).same f fun hm => ?_
  rcases List.mem_append.1 hm with hm | hm
  · exact registers_notMem_of_mem_hostFields f hf hm
  · exact of_decide_eq_true (List.all_eq_true.1 (beyondRegisters_all_notMem_hostFields i) f hm) hf

/-- No instruction but a control transfer writes PBR (R26). -/
theorem exec_pbr {i : Instr} {s t : State} (hi : setsPC i = false) (h : exec i s = .next t) : t.pbr = s.pbr := by
  refine (exec_framed h).same .pbr fun hm => ?_
  have hp := setsPC_or_pbr_notMem i
  rw [hi, Bool.false_or] at hp
  rcases List.mem_append.1 hm with hm | hm
  · exact absurd hm (by decide)
  · exact of_decide_eq_true hp hm

/-- An entry to an interrupt handler writes no field of the host's. -/
theorem interrupt_hostFields (kind : InterruptKind) (ret : Word) (s : State) {f : Field} (hf : f ∈ hostFields) :
    f.same s (interrupt kind ret s) := by
  refine interrupt_sameBut kind ret s f ?_
  revert f
  decide

/-- Settles O19, from the frame of every instruction. -/
theorem pcAdvancesByTheLength : Obligations.PCAdvancesByTheLength :=
  fun _ _ _ hi h => ⟨(exec_framed h).pc hi, exec_pbr hi h⟩

/-- Two states that agree on the fields of the host's meet what O15 asks of a step. -/
theorem inputsKept_of_same {s t : State} (h : ∀ f ∈ hostFields, f.same s t) :
    t.cfg = s.cfg ∧ t.irqLine = s.irqLine ∧ t.resetLine = s.resetLine ∧ (t.nmiPending = true → s.nmiPending = true) ∧
    (t.abortPending = s.abortPending ∨ (s.resetLine = true ∧ t.abortPending = false)) := by
  have hnmi : t.nmiPending = s.nmiPending := h .nmiPending (by decide)
  exact ⟨h .cfg (by decide), h .irqLine (by decide), h .resetLine (by decide), hnmi.symm.trans,
    .inl (h .abortPending (by decide))⟩

/-- Settles O15, by the ways a step ends in a next state (`step_cases`): a reset, an NMI, an IRQ, the end of a wait,
nothing, an instruction. -/
theorem parametersAndLinesConstant : Obligations.ParametersAndLinesConstant := by
  intro s t h
  rcases step_cases h with ⟨hr, rfl⟩ | ⟨_, rfl⟩ | ⟨_, rfl⟩ | ⟨_, rfl⟩ | ⟨_, rfl⟩ | ⟨_, i, _, hx⟩
  · obtain ⟨x, y, z, l, k, target, hreset⟩ := resetSequence_state s
    rw [hreset]
    exact ⟨rfl, rfl, rfl, Bool.noConfusion, .inr ⟨(sample_reset_iff s).1 hr, rfl⟩⟩
  · obtain ⟨hcfg, hirq, hres, hnmi, habort⟩ :=
      inputsKept_of_same fun f => interrupt_hostFields .nmi s.pc { s with nmiPending := false }
    exact ⟨hcfg, hirq, hres, fun h => Bool.noConfusion (hnmi h), habort⟩
  · exact inputsKept_of_same fun f => interrupt_hostFields .irq s.pc s
  · exact inputsKept_of_same fun f hf => by cases f <;> simp [hostFields] at hf <;> rfl
  · exact inputsKept_of_same fun f _ => by cases f <;> rfl
  · exact inputsKept_of_same fun f => exec_hostFields hx

end Sys2Proof.Machine

/-! What is fetched is available on the variant (R96, R97). -/

namespace Sys2Proof

/-- A cell of the opcode map names a variant that offers whatever its layout assembles (R96, R110). -/
def OpcodeRow.Covers (c : OpcodeRow) : Prop :=
  ∀ (v : Variant) (w : Widths) (b1 b2 b3 : Byte), v.offers c.since = true →
    v.offers (c.layout.assemble w b1 b2 b3).since = true

theorem opcodeMatrix_covers : ∀ row ∈ opcodeMatrix, ∀ c ∈ row, c.Covers := by
  simp only [opcodeMatrix, opcodeRow0, opcodeRow1, opcodeRow2, opcodeRow3, opcodeRow4, opcodeRow5, opcodeRow6,
    opcodeRow7, opcodeRow8, opcodeRow9, opcodeRowA, opcodeRowB, opcodeRowC, opcodeRowD, opcodeRowE, opcodeRowF,
    List.forall_mem_cons, List.not_mem_nil, false_implies, implies_true, and_true]
  and_intros
  all_goals exact fun _ _ _ _ _ h => h

/-- What holds of the entries of a list and of the default holds of a lookup. -/
theorem forall_getD {α : Type} {P : α → Prop} {l : List α} {d : α} (hl : ∀ a ∈ l, P a) (hd : P d) (n : Nat) :
    P (l.getD n d) := by
  rw [List.getD_eq_getElem?_getD]
  cases h : l[n]? with
  | none => exact hd
  | some a => exact hl a (List.mem_of_getElem? h)

theorem opcodeCell_covers (op : Byte) : (opcodeCell op).Covers :=
  forall_getD (forall_getD (P := fun row : List OpcodeRow => ∀ c ∈ row, c.Covers) opcodeMatrix_covers (by simp) _)
    (fun v _ _ _ _ _ => by cases v <;> rfl) _

/-- The decoder answers only instructions the variant has (R97). -/
theorem decodeOp_offers {v : Variant} {w : Widths} {op b1 b2 b3 : Byte} {i : Instr}
    (h : decodeOp v w op b1 b2 b3 = some i) : v.offers i.since = true := by
  unfold decodeOp at h
  split at h
  · cases h; exact opcodeCell_covers op v w b1 b2 b3 ‹_›
  · cases h

theorem Variant.eq_v65816_of_offers {v : Variant} (h : v.offers .v65816 = true) : v = .v65816 := by
  cases v <;> simp [Variant.offers, Variant.rank] at h ⊢

end Sys2Proof

namespace Sys2Proof.Machine

/-- A step performs only instructions the variant has (R97). -/
theorem fetchInstr_offers {s : State} {i : Instr} (h : fetchInstr s = .ok i) : s.cfg.variant.offers i.since = true := by
  obtain ⟨_, _, hd⟩ := fetchInstr_ok h
  exact decodeOp_offers hd

end Sys2Proof.Machine

/-! XCE, by the mode it leaves and the mode it enters (R363). -/

namespace Sys2Proof.Machine

section
variable {s : State}

/-- XCE that enters emulation mode. -/
theorem exchangeCarryEmulation_of_carry (hc : s.flagC = true) :
    exchangeCarryEmulation s =
      (((State.setFlagC { s with e := true, sp := 0x01#8 ++ low s.sp } s.e).setFlagM true).setFlagX
        true).clearIndexHigh := by
  simp only [exchangeCarryEmulation, hc, if_true]
  rfl

/-- XCE that leaves emulation mode. -/
theorem exchangeCarryEmulation_of_leave (hc : s.flagC = false) (he : s.e = true) :
    exchangeCarryEmulation s = ((State.setFlagC { s with e := false } true).setFlagM true).setFlagX true := by
  simp only [exchangeCarryEmulation, hc, he, if_true, Bool.false_eq_true, if_false]
  rfl

/-- XCE from native mode to native mode. -/
theorem exchangeCarryEmulation_of_native (hc : s.flagC = false) (he : s.e = false) :
    exchangeCarryEmulation s = State.setFlagC { s with e := false } false := by
  simp only [exchangeCarryEmulation, hc, he, Bool.false_eq_true, if_false]
  rfl

end

/-- The flags after XCE: c is the old e, m and x are 1 where emulation mode is entered or left, the others stay. -/
theorem exchangeCarryEmulation_flags (s : State) :
    (exchangeCarryEmulation s).flagC = s.e ∧
    (exchangeCarryEmulation s).flagM = (s.flagM || s.flagC || s.e) ∧
    (exchangeCarryEmulation s).flagX = (s.flagX || s.flagC || s.e) ∧
    FlagsBut [.c, .m, .x] s (exchangeCarryEmulation s) := by
  cases hc : s.flagC
  · cases he : s.e
    · rw [exchangeCarryEmulation_of_native hc he]
      refine ⟨by simp, by simp; rfl, by simp; rfl, fun f hf => ?_⟩
      cases f <;> simp [Flag.of] at hf ⊢ <;> rfl
    · rw [exchangeCarryEmulation_of_leave hc he]
      refine ⟨by simp, by simp, by simp, fun f hf => ?_⟩
      cases f <;> simp [Flag.of] at hf ⊢ <;> rfl
  · rw [exchangeCarryEmulation_of_carry hc]
    refine ⟨by simp, by simp, by simp, fun f hf => ?_⟩
    cases f <;> simp [Flag.of] at hf ⊢ <;> rfl

/-- The index registers and S after XCE: entering emulation mode clears the high bytes of X and Y and puts S in page 1. -/
theorem exchangeCarryEmulation_index (s : State) :
    (exchangeCarryEmulation s).x = (if s.flagC then (low s.x).zeroExtend 16 else s.x) ∧
    (exchangeCarryEmulation s).y = (if s.flagC then (low s.y).zeroExtend 16 else s.y) ∧
    (exchangeCarryEmulation s).sp = (if s.flagC then 0x01#8 ++ low s.sp else s.sp) := by
  cases hc : s.flagC
  · cases he : s.e
    · rw [exchangeCarryEmulation_of_native hc he]; exact ⟨rfl, rfl, rfl⟩
    · rw [exchangeCarryEmulation_of_leave hc he]; exact ⟨rfl, rfl, rfl⟩
  · rw [exchangeCarryEmulation_of_carry hc]; exact ⟨rfl, rfl, rfl⟩

/-- Settles O54, from what XCE does to the flags (`exchangeCarryEmulation_flags`), to X, Y and S
(`exchangeCarryEmulation_index`), and to the rest of the state (`exchangeCarryEmulation_state`). The obligation's own name
in lowerCamelCase is the model's function. -/
theorem exchangeCarryEmulation_holds : Obligations.ExchangeCarryEmulation := by
  intro s
  obtain ⟨hc, hm, hx, hflags⟩ := exchangeCarryEmulation_flags s
  obtain ⟨hX, hY, hS⟩ := exchangeCarryEmulation_index s
  obtain ⟨q, x, y, z, hs⟩ := exchangeCarryEmulation_state s
  have low_nat (v : Word) : ((low v).zeroExtend 16).toNat = v.toNat % 256 := by
    simp [low_toNat]; omega
  refine ⟨(exchangeCarryEmulation s).advance 1, rfl, by rw [hs]; rfl, hc, hm, hx, hflags, ?_, ?_, ?_, ?_, ?_, ?_⟩
  · rw [State.advance_x, hX, apply_ite BitVec.toNat, low_nat]
  · rw [State.advance_y, hY, apply_ite BitVec.toNat, low_nat]
  · rw [State.advance_sp, hS, apply_ite BitVec.toNat, append_toNat, low_toNat]
    rfl
  · rw [hs]; rfl
  · intro f hf
    rw [hs]
    cases f <;> simp at hf <;> rfl
  · rw [hs]; exact ⟨fun _ => rfl, rfl, rfl⟩

end Sys2Proof.Machine

/-! What every operation keeps: the invariants I2, I3 and I4 of R34, the canonical form of memory, and on the 8-bit variants
a memory of bank 0 only (R61). -/

namespace Sys2Proof.Machine

theorem State.xw_eq_w8_iff (s : State) :
    s.xw = .w8 ↔ s.cfg.variant ≠ .v65816 ∨ s.e = true ∨ s.flagX = true := by
  unfold State.xw
  split
  · rename_i h
    obtain ⟨hv, he, hx⟩ := h
    simp [hv, he, hx]
  · rename_i h
    simpa only [not_and_or, Bool.not_eq_false, true_iff, ne_eq] using h

/-- S after pushes or pulls lies in page 1 if e = 1 and S did (R71, R72). -/
theorem stackDown_high {sp : Word} (h : high sp = 0x01#8) (n : Nat) : high (stackDown true sp n) = 0x01#8 := by
  induction n generalizing sp with
  | zero => exact h
  | succ n ih => exact ih (high_append _ _)

theorem stackUp_high {sp : Word} (h : high sp = 0x01#8) (n : Nat) : high (stackUp true sp n) = 0x01#8 := by
  induction n generalizing sp with
  | zero => exact h
  | succ n ih => exact ih (high_append _ _)

/-! Where the 8-bit variants store (R61, R64, R149). -/

theorem fullAddr_bank0_lt (o : Word) : (fullAddr 0#8 o).toNat < 2 ^ 16 := by
  rw [fullAddr_toNat]
  simpa using o.isLt

/-- Every byte of a location in bank 0, or of a `LINEAR` one, is in bank 0 on the 8-bit variants. -/
theorem byteAddr_lt {u : Variant} (hu : u ≠ .v65816) {l : Loc} (hl : l.wrap = .linear ∨ bankOf l.addr = 0#8) (k : Nat) :
    (byteAddr u l k).toNat < 2 ^ 16 := by
  obtain ⟨a, w⟩ := l
  cases w with
  | linear => cases u with
    | v65816 => exact absurd rfl hu
    | v6502 | v65C02 => exact fullAddr_bank0_lt _
  | bank | page =>
    have ha : bankOf a = 0#8 := by simpa using hl
    simp only [byteAddr, ha]
    exact fullAddr_bank0_lt _

theorem storeAt_lt {u : Variant} (hu : u ≠ .v65816) {l : Loc} (hl : l.wrap = .linear ∨ bankOf l.addr = 0#8) (w : Width)
    (v : BitVec w.bits) : ∀ c ∈ storeAt u w l v, c.1.toNat < 2 ^ 16 := by
  cases w <;> simp only [storeAt, List.forall_mem_cons, List.not_mem_nil, false_implies, implies_true, and_true]
  · exact byteAddr_lt hu hl 0
  · exact ⟨byteAddr_lt hu hl 0, byteAddr_lt hu hl 1⟩

theorem dpLoc_bank (off : Byte) (idx : Word) (s : State) : bankOf (dpLoc off idx s).addr = 0#8 := by
  unfold dpLoc
  split <;> exact bankOf_fullAddr _ _

/-- A mode gives a `LINEAR` location or one in bank 0 (R122 to R136). -/
theorem AddrMode.resolve_wrap_or_bank (m : AddrMode) (s : State) :
    (m.resolve s).1.wrap = .linear ∨ bankOf (m.resolve s).1.addr = 0#8 := by
  cases m
  case dp | dpX | dpY => exact .inr (dpLoc_bank _ _ s)
  case sr => exact .inr (bankOf_fullAddr _ _)
  all_goals exact .inl rfl

theorem pushedAt_lt (e : Bool) (sp : Word) (l : List Byte) : ∀ c ∈ pushedAt e sp l, c.1.toNat < 2 ^ 16 := by
  intro c hc
  obtain ⟨k, _, ha⟩ := mem_pushedAt (List.mem_map_of_mem hc)
  rw [ha]
  exact fullAddr_bank0_lt _

theorem writeByte_bank0 {s : State} {a : Addr} (ha : a.toNat < 2 ^ 16) (v : Byte) (h : ∀ c ∈ s.mem, c.1 < 2 ^ 16) :
    ∀ c ∈ (writeByte a v s).mem, c.1 < 2 ^ 16 := by
  unfold writeByte
  split
  · exact h
  · split
    · intro c hc
      rcases Memory.mem_write hc with ⟨rfl, _⟩ | hc
      · exact ha
      · exact h c hc
    · exact h

theorem writeBytes_bank0 {s : State} {l : List Store} (hl : ∀ c ∈ l, c.1.toNat < 2 ^ 16)
    (h : ∀ c ∈ s.mem, c.1 < 2 ^ 16) : ∀ c ∈ (writeBytes l s).mem, c.1 < 2 ^ 16 := by
  induction l generalizing s with
  | nil => exact h
  | cons d rest ih =>
    obtain ⟨hd, hrest⟩ := List.forall_mem_cons.1 hl
    exact ih hrest (writeByte_bank0 hd d.2 h)

/-- Each of the invariants I2, I3, I4, the canonical form of memory and `MemInBank0` holds of `t` if it holds of `s`. -/
structure Keeps (s t : State) : Prop where
  i2 : s.InvI2 → t.InvI2
  i3 : s.InvI3 → t.InvI3
  i4 : s.InvI4 → t.InvI4
  wf : Memory.wf s.mem → Memory.wf t.mem
  bank0 : s.MemInBank0 → t.MemInBank0

namespace Keeps

variable {s t u : State}

theorem refl (s : State) : Keeps s s := ⟨id, id, id, id, id⟩

theorem trans (h : Keeps s t) (h' : Keeps t u) : Keeps s u :=
  ⟨h'.i2 ∘ h.i2, h'.i3 ∘ h.i3, h'.i4 ∘ h.i4, h'.wf ∘ h.wf, h'.bank0 ∘ h.bank0⟩

theorem reads (h : ReadsTo s t) : Keeps s t := by obtain ⟨l, k, rfl⟩ := h; exact ⟨id, id, id, id, id⟩

/-! PC, the accumulator, and what no invariant of `Keeps` speaks of. -/

theorem advance (s : State) (n : Nat) : Keeps s (s.advance n) := ⟨id, id, id, id, id⟩

theorem jump (s : State) (a : Word) : Keeps s (s.jump a) := ⟨id, id, id, id, id⟩

theorem jumpLong (s : State) (k : Byte) (a : Word) : Keeps s (s.jumpLong k a) := ⟨id, id, id, id, id⟩

theorem setAcc (s : State) (w : Width) (v : BitVec w.bits) : Keeps s (s.setAcc w v) := by
  cases w <;> exact ⟨id, id, id, id, id⟩

/-! P. -/

/-- A change of P keeps the invariants if it keeps I2 and does not set x. -/
theorem setP {q : Byte} (h2 : s.InvI2 → State.InvI2 { s with p := q })
    (hx : State.flagX { s with p := q } = true → s.flagX = true) : Keeps s { s with p := q } := by
  refine ⟨h2, id, fun h4 hw => h4 ?_, id, id⟩
  rw [State.xw_eq_w8_iff] at hw ⊢
  exact hw.imp_right (Or.imp_right hx)

/-- A change of P that leaves m and x alone keeps the invariants. -/
theorem setFlags (hp : ∃ q, t = { s with p := q }) (hm : t.flagM = s.flagM) (hx : t.flagX = s.flagX) : Keeps s t := by
  obtain ⟨q, rfl⟩ := hp
  exact setP (fun h2 he => by rw [hm, hx]; exact h2 he) fun h => hx ▸ h

theorem setFlagC (s : State) (v : Bool) : Keeps s (s.setFlagC v) := setFlags ⟨_, rfl⟩ (by simp) (by simp)

theorem setFlagZ (s : State) (v : Bool) : Keeps s (s.setFlagZ v) := setFlags ⟨_, rfl⟩ (by simp) (by simp)

theorem setFlagI (s : State) (v : Bool) : Keeps s (s.setFlagI v) := setFlags ⟨_, rfl⟩ (by simp) (by simp)

theorem setFlagD (s : State) (v : Bool) : Keeps s (s.setFlagD v) := setFlags ⟨_, rfl⟩ (by simp) (by simp)

theorem setFlagV (s : State) (v : Bool) : Keeps s (s.setFlagV v) := setFlags ⟨_, rfl⟩ (by simp) (by simp)

theorem setFlagN (s : State) (v : Bool) : Keeps s (s.setFlagN v) := setFlags ⟨_, rfl⟩ (by simp) (by simp)

theorem setNZ (s : State) {n : Nat} (v : BitVec n) : Keeps s (s.setNZ v) := setFlags ⟨_, rfl⟩ (by simp) (by simp)

theorem setCompare (s : State) {n : Nat} (r m : BitVec n) : Keeps s (s.setCompare r m) :=
  setFlags ⟨_, rfl⟩ (by simp) (by simp)

theorem setDecimalNVZ (s : State) {n : Nat} (r : BitVec n) : Keeps s (s.setDecimalNVZ r) := by
  unfold State.setDecimalNVZ
  split
  · exact (((setFlagN s _).trans (setFlagZ _ _)).trans (setFlagV _ _)).trans (reads ⟨_, _, rfl⟩)
  all_goals exact ((setNZ s r).trans (setFlagV _ _)).trans (reads ⟨_, _, rfl⟩)

theorem interruptFlags (s : State) : Keeps s (interruptFlags s) :=
  setFlags (interruptFlags_state s) (interruptFlags_flags s .m (by decide)) (interruptFlags_flags s .x (by decide))

/-- The high bytes of X and Y are cleared where x becomes 1 (R228, R314, R342). -/
theorem clearIfX {q : Byte} (h2 : s.InvI2 → State.InvI2 { s with p := q }) :
    Keeps s (if State.flagX { s with p := q } then State.clearIndexHigh { s with p := q } else { s with p := q }) := by
  split
  · exact ⟨h2, id, fun _ _ => ⟨high_zeroExtend _, high_zeroExtend _⟩, id, id⟩
  · rename_i hx
    exact setP h2 fun h => absurd h hx

theorem restoreStatus (v : Byte) (s : State) : Keeps s (restoreStatus v s) :=
  clearIfX fun _ he => by
    have he : s.e = true := he
    simp [State.flagM, State.flagX, he]

theorem setStatusBits (k : Byte) (s : State) : Keeps s (setStatusBits k s) :=
  clearIfX fun h2 he => by
    obtain ⟨hm, hx⟩ := h2 he
    simp only [State.flagM, State.flagX] at hm hx ⊢
    simp [hm, hx]

/-- REP (R227): with e = 1 its mask spares m and x. -/
theorem clearStatusBits (k : Byte) (s : State) : Keeps s { s with p := s.p &&& ~~~(statusMask k s) } := by
  refine setP (fun h2 he => ?_) fun h => ?_
  · obtain ⟨hm, hx⟩ := h2 he
    have he : s.e = true := he
    simp only [State.flagM, State.flagX] at hm hx ⊢
    simp [hm, hx, statusMask, he]
  · simp only [State.flagX, BitVec.getLsbD_and, Bool.and_eq_true] at h ⊢
    exact h.1

/-! X, Y and S. -/

theorem setX {w : Width} (hw : s.xw = w) (v : BitVec w.bits) : Keeps s (s.setX v) := by
  refine ⟨id, id, fun h4 h8 => ?_, id, id⟩
  obtain rfl : w = .w8 := hw.symm.trans h8
  exact ⟨high_zeroExtend v, (h4 h8).2⟩

theorem setY {w : Width} (hw : s.xw = w) (v : BitVec w.bits) : Keeps s (s.setY v) := by
  refine ⟨id, id, fun h4 h8 => ?_, id, id⟩
  obtain rfl : w = .w8 := hw.symm.trans h8
  exact ⟨(h4 h8).1, high_zeroExtend v⟩

theorem setXY {w : Width} (hw : s.xw = w) (v v' : BitVec w.bits) : Keeps s ((s.setX v).setY v') :=
  (setX hw v).trans (setY ((State.setX_xw s v).trans hw) v')

theorem setXNZ {w : Width} (hw : s.xw = w) (v : BitVec w.bits) : Keeps s (setXNZ v s) :=
  (setNZ s v).trans (setX ((State.setNZ_xw s v).trans hw) v)

theorem setYNZ {w : Width} (hw : s.xw = w) (v : BitVec w.bits) : Keeps s (setYNZ v s) :=
  (setNZ s v).trans (setY ((State.setNZ_xw s v).trans hw) v)

theorem setAccNZ (s : State) (w : Width) (v : BitVec w.bits) : Keeps s ((s.setNZ v).setAcc w v) :=
  (setNZ s v).trans (setAcc _ w v)

theorem setS (s : State) (v : Word) : Keeps s (s.setS v) := by
  refine ⟨id, fun _ he => ?_, id, id, id⟩
  have he : s.e = true := he
  simp [State.setS, he]

/-! The stack and memory. -/

theorem pulls {n : Nat} (h : ∃ l k, t = { s with ioLog := l, draws := k, sp := stackUp s.e s.sp n }) : Keeps s t := by
  obtain ⟨l, k, rfl⟩ := h
  refine ⟨id, fun h3 he => ?_, id, id, id⟩
  have he : s.e = true := he
  simpa only [he] using stackUp_high (h3 he) n

theorem pull8 {v : Byte} (h : pull8 s = (v, t)) : Keeps s t := pulls (pull8_state h)

theorem pull16 {v : Word} (h : pull16 s = (v, t)) : Keeps s t := pulls (pull16_state h)

theorem pullAt {w : Width} {v : BitVec w.bits} (h : pullAt w s = (v, t)) : Keeps s t := pulls (pullAt_state h)

theorem writeBytes {l : List Store} (hl : s.cfg.variant ≠ .v65816 → ∀ c ∈ l, c.1.toNat < 2 ^ 16) :
    Keeps s (writeBytes l s) := by
  obtain ⟨m, k, h⟩ := writeBytes_writesTo l s
  have hwf := writeBytes_wf (s := s) (l := l)
  have hbank := writeBytes_bank0 (s := s) (l := l)
  rw [h] at hwf hbank ⊢
  exact ⟨id, id, id, fun hm => hwf hm, fun h0 hv => hbank (hl hv) (h0 hv)⟩

theorem pushBytes (l : List Byte) (s : State) : Keeps s (pushBytes l s) := by
  rw [pushBytes_eq]
  refine (writeBytes fun _ => pushedAt_lt s.e s.sp l).trans ?_
  obtain ⟨m, k, h⟩ := writeBytes_writesTo (pushedAt s.e s.sp l) s
  rw [h]
  refine ⟨id, fun h3 he => ?_, id, id, id⟩
  have he : s.e = true := he
  simpa only [he] using stackDown_high (h3 he) l.length

theorem push8 (v : Byte) (s : State) : Keeps s (push8 v s) := pushBytes [v] s

theorem push16 (v : Word) (s : State) : Keeps s (push16 v s) := pushBytes [high v, low v] s

theorem pushAt (w : Width) (v : BitVec w.bits) (s : State) : Keeps s (pushAt w v s) := by
  rw [pushAt_eq]; exact pushBytes _ s

/-! Interrupts, reset, and the operations with more than one effect. -/

/-- The entry sequence (R386). -/
theorem interrupt (kind : InterruptKind) (ret : Word) (s : State) : Keeps s (interrupt kind ret s) := by
  obtain ⟨target, s2, _, hr, h⟩ := interrupt_cases kind ret s
  rw [h]
  have hflags := (pushBytes (entryBytes kind ret s) s).trans (interruptFlags _)
  have hbank : Keeps s _ := hflags.trans (u := { Machine.interruptFlags _ with pbr := 0#8 }) ⟨id, id, id, id, id⟩
  exact (hbank.trans (reads hr)).trans ⟨id, id, id, id, id⟩

/-- The return from an interrupt (R342). -/
theorem returnFromInterrupt (s : State) : Keeps s (returnFromInterrupt s) := by
  obtain ⟨v, s1, a, s2, hv, ha, h⟩ := returnFromInterrupt_cases s
  have hs2 := ((pull8 hv).trans (restoreStatus v s1)).trans (pull16 ha)
  rcases h with ⟨_, h⟩ | ⟨_, k, s3, hk, h⟩
  · exact h ▸ hs2.trans (jump _ _)
  · exact h ▸ (hs2.trans (pull8 hk)).trans (jumpLong _ _ _)

/-- The reset sequence establishes I2, I3 and I4 (R421). -/
theorem resetSequence (s : State) : Keeps s (resetSequence s) := by
  obtain ⟨x, y, z, l, k, target, h⟩ := resetSequence_state s
  obtain ⟨hm, hx, _⟩ := resetStatus_bits s.cfg.variant (s.draws + 5)
  rw [h]
  exact ⟨fun _ _ => ⟨hm, hx⟩, fun _ _ => high_append _ _, fun _ _ => ⟨high_zeroExtend x, high_zeroExtend y⟩, id, id⟩

/-- XCE forces what entering a mode forces (R34, R363). -/
theorem exchangeCarryEmulation (s : State) : Keeps s (exchangeCarryEmulation s) := by
  obtain ⟨_, hm, hx, _⟩ := exchangeCarryEmulation_flags s
  obtain ⟨hX, hY, hS⟩ := exchangeCarryEmulation_index s
  obtain ⟨q, x, y, z, h⟩ := exchangeCarryEmulation_state s
  have he : (Machine.exchangeCarryEmulation s).e = s.flagC := by rw [h]
  have hcfg : (Machine.exchangeCarryEmulation s).cfg = s.cfg := by rw [h]
  have hmem : (Machine.exchangeCarryEmulation s).mem = s.mem := by rw [h]
  refine ⟨fun _ hc => ?_, fun _ hc => ?_, fun h4 hw => ?_, fun hwf => hmem ▸ hwf, fun h0 => ?_⟩
  · rw [he] at hc
    simp [hm, hx, hc]
  · rw [he] at hc
    simp [hS, hc]
  · cases hc : s.flagC
    · have hxw : s.xw = .w8 := by
        rw [State.xw_eq_w8_iff, hcfg, he, hx, hc] at hw
        rw [State.xw_eq_w8_iff]
        simpa [or_comm] using hw
      simpa [hX, hY, hc] using h4 hxw
    · rw [hX, hY, hc]
      exact ⟨high_zeroExtend _, high_zeroExtend _⟩
  · rw [State.MemInBank0, hcfg, hmem]
    exact h0

/-- One byte of a block move, which only V65816 has (R360, R110). -/
theorem moveByte (hv : s.cfg.variant = .v65816) (delta : Int) (k1 k2 : Byte) : Keeps s (moveByte delta k1 k2 s) := by
  obtain ⟨v, s1, _, hr, m, l, hw, h⟩ := moveByte_cases delta k1 k2 s
  have hcfg : s1.cfg = s.cfg := hr.field .cfg
  have hwrite : Keeps s1 (writeByte (fullAddr (moveBanks k1 k2 s).2 s.y) v s1) :=
    writeBytes (l := [(_, v)]) fun hne => absurd (hcfg ▸ hv) hne
  rw [hw] at hwrite
  have hxw : State.xw { s1 with mem := m, ioLog := l } = s.xw := hr.widths.2
  rw [h]
  exact (((reads hr).trans hwrite).trans (setXY hxw _ _)).trans ⟨id, id, id, id, id⟩

end Keeps

end Sys2Proof.Machine

/-! Every instruction the variant has keeps what `Keeps` names. -/

namespace Sys2Proof.Machine

open Sys2Proof.Claims

/-- If the outcome is a next state, it keeps the invariants that `Keeps` names. -/
def Keeping (s : State) (r : Result) : Prop := ∀ t, r = .next t → Keeps s t

section
variable {s : State}

theorem Keeping.of_keeps {t : State} (h : Keeps s t) : Keeping s (.next t) := by rintro _ ⟨⟩; exact h

theorem Keeping.next {u : State} {n : Nat} (h : Keeps s u) : Keeping s (.next (u.advance n)) :=
  .of_keeps (h.trans (.advance u n))

theorem Keeping.refused (r : Refusal) : Keeping s (.refused r) := by rintro _ ⟨⟩

/-- The meaning of an instruction by its operand form, as the lemmas of the forms give it. -/
theorem Keeping.of_form {i : Instr} {r : Result} {P : Prop} (h : exec i s = r ∧ P) (hr : Keeping s r) :
    Keeping s (exec i s) := h.1 ▸ hr

/-! The instruction shapes. -/

theorem Keeping.withOperand {w : Width} {o : Operand} {k : BitVec w.bits → State → Result}
    (hk : ∀ m s1, ReadsTo s s1 → Keeping s1 (k m s1)) : Keeping s (withOperand w o s k) := by
  rcases withOperand_cases w o s k with ⟨r, _, h⟩ | ⟨_, m, s1, _, hr, h⟩
  · rw [h]; exact .refused r
  · rw [h]
    exact fun t ht => (Keeps.reads hr).trans (hk m s1 hr t ht)

/-- The bytes of a store go where `storeAt_lt` says. -/
theorem Keeps.storeResolved {m : AddrMode} {l : Loc} {s1 t : State} (hl : m.resolve s = (l, s1)) (w : Width)
    (v : BitVec w.bits) (ht : t.cfg = s.cfg) : Keeps t (Machine.writeBytes (storeAt s.cfg.variant w l v) t) := by
  have hbank := m.resolve_wrap_or_bank s
  rw [hl] at hbank
  exact .writeBytes fun hv => storeAt_lt (ht ▸ hv) hbank w v

theorem Keeping.store (w : Width) (m : AddrMode) (v : BitVec w.bits) : Keeping s (store w m v s) := by
  rcases store_cases w m v s with ⟨r, _, h⟩ | ⟨_, l, s1, hl, hr, h⟩
  · rw [h]; exact .refused r
  · rw [h]; exact .next ((Keeps.reads hr).trans (.storeResolved hl w v (hr.field .cfg)))

/-- A read-modify-write whose function changes P alone, and there neither m nor x. -/
theorem Keeping.modify {w : Width} {m : AddrMode} {f : BitVec w.bits → State → BitVec w.bits × State}
    (hf : ∀ v t, ∃ q, (f v t).2 = { t with p := q }) (hk : ∀ v t, Keeps t (f v t).2) : Keeping s (modify w m s f) := by
  rcases modify_cases w m s f hf with ⟨r, _, h⟩ | ⟨_, l, s1, v, s2, hl, hr, _, hr', h⟩
  · rw [h]; exact .refused r
  · rw [h]
    have hcfg : (f v s2).2.cfg = s.cfg := by
      obtain ⟨q, hq⟩ := hf v s2
      rw [hq]
      exact (hr.trans hr').field .cfg
    exact .next (((Keeps.reads (hr.trans hr')).trans (hk v s2)).trans (.storeResolved hl w _ hcfg))

theorem Keeping.modifyAcc {w : Width} {f : BitVec w.bits → State → BitVec w.bits × State}
    (hk : ∀ v t, Keeps t (f v t).2) : Keeping s (modifyAcc w s f) :=
  .next ((hk (s.acc w) s).trans (.setAcc _ w _))

/-! The functions that `modify` and `modifyAcc` are given. -/

theorem decrement_keeps {n : Nat} (v : BitVec n) (t : State) : Keeps t (decrement v t).2 := .setNZ t _

theorem increment_keeps {n : Nat} (v : BitVec n) (t : State) : Keeps t (increment v t).2 := .setNZ t _

theorem shifted_keeps {n : Nat} (f : BitVec n → Bool → BitVec n × Bool) (v : BitVec n) (t : State) :
    Keeps t (shifted f v t).2 := (Keeps.setNZ t _).trans (.setFlagC _ _)

theorem testReset_keeps {w : Width} (v : BitVec w.bits) (t : State) : Keeps t (testReset w v t).2 := .setFlagZ t _

theorem testSet_keeps {w : Width} (v : BitVec w.bits) (t : State) : Keeps t (testSet w v t).2 := .setFlagZ t _

/-! The meanings that a family of operand forms shares. -/

theorem adc_keeping (o : Operand) : Keeping s (adc o s) := by
  refine .withOperand fun m s1 _ => ?_
  unfold adcValue
  split
  · split
    · exact .next (((Keeps.setDecimalNVZ s1 _).trans (.setFlagC _ _)).trans (.setAcc _ _ _))
    · exact .refused _
  · exact .next ((((Keeps.setNZ s1 _).trans (.setFlagV _ _)).trans (.setFlagC _ _)).trans (.setAcc _ _ _))

theorem sbc_keeping (o : Operand) : Keeping s (sbc o s) := by
  refine .withOperand fun m s1 _ => ?_
  unfold sbcValue
  split
  · split
    · exact .next (((Keeps.setDecimalNVZ s1 _).trans (.setFlagC _ _)).trans (.setAcc _ _ _))
    · exact .refused _
  · exact .next ((((Keeps.setNZ s1 _).trans (.setFlagV _ _)).trans (.setFlagC _ _)).trans (.setAcc _ _ _))

theorem andA_keeping (o : Operand) : Keeping s (andA o s) := .withOperand fun _ s1 _ => .next (.setAccNZ s1 _ _)

theorem eorA_keeping (o : Operand) : Keeping s (eorA o s) := .withOperand fun _ s1 _ => .next (.setAccNZ s1 _ _)

theorem oraA_keeping (o : Operand) : Keeping s (oraA o s) := .withOperand fun _ s1 _ => .next (.setAccNZ s1 _ _)

theorem loadA_keeping (o : Operand) : Keeping s (loadA o s) := .withOperand fun _ s1 _ => .next (.setAccNZ s1 _ _)

theorem loadX_keeping (o : Operand) : Keeping s (loadX o s) :=
  .withOperand fun m _ hr => .next (.setXNZ hr.widths.2 m)

theorem loadY_keeping (o : Operand) : Keeping s (loadY o s) :=
  .withOperand fun m _ hr => .next (.setYNZ hr.widths.2 m)

theorem cmpA_keeping (o : Operand) : Keeping s (cmpA o s) := .withOperand fun _ s1 _ => .next (.setCompare s1 _ _)

theorem cmpX_keeping (o : Operand) : Keeping s (cmpX o s) := .withOperand fun _ s1 _ => .next (.setCompare s1 _ _)

theorem cmpY_keeping (o : Operand) : Keeping s (cmpY o s) := .withOperand fun _ s1 _ => .next (.setCompare s1 _ _)

theorem bitMem_keeping (m : AddrMode) : Keeping s (bitMem m s) :=
  .withOperand fun _ s1 _ => .next (((Keeps.setFlagZ s1 _).trans (.setFlagN _ _)).trans (.setFlagV _ _))

/-- Opcodes BE and B6, whatever their index register is (R272). -/
theorem loadXIndexed_keeping (byX byY : AddrMode) : Keeping s (loadXIndexed byX byY s) := by
  unfold loadXIndexed
  split
  · exact loadX_keeping _
  · exact loadX_keeping _
  · exact .refused _

/-! The pulls. -/

theorem execPla_keeping : Keeping s (execPla s) := by
  rcases hp : pullAt s.mw s with ⟨v, s1⟩
  rw [execPla, hp]
  exact .next ((Keeps.pullAt hp).trans (.setAccNZ s1 _ v))

/-- A pull leaves the index width as it was. -/
theorem pullAt_xw {w : Width} {t : State} {v : BitVec w.bits} (h : pullAt w s = (v, t)) : t.xw = s.xw := by
  obtain ⟨l, k, rfl⟩ := pullAt_state h; rfl

theorem execPlx_keeping : Keeping s (execPlx s) := by
  rcases hp : pullAt s.xw s with ⟨v, s1⟩
  rw [execPlx, hp]
  exact .next ((Keeps.pullAt hp).trans (.setXNZ (pullAt_xw hp) v))

theorem execPly_keeping : Keeping s (execPly s) := by
  rcases hp : pullAt s.xw s with ⟨v, s1⟩
  rw [execPly, hp]
  exact .next ((Keeps.pullAt hp).trans (.setYNZ (pullAt_xw hp) v))

theorem execPlp_keeping : Keeping s (execPlp s) := by
  rcases hp : pull8 s with ⟨v, s1⟩
  rw [execPlp, hp]
  exact .next ((Keeps.pull8 hp).trans (.restoreStatus v s1))

theorem execPld_keeping : Keeping s (execPld s) := by
  unfold execPld
  split
  · exact .refused _
  · rcases hp : pull16 s with ⟨v, s1⟩
    exact .next (((Keeps.pull16 hp).trans (.setNZ s1 v)).trans ⟨id, id, id, id, id⟩)

theorem execPlb_keeping : Keeping s (execPlb s) := by
  unfold execPlb
  split
  · exact .refused _
  · rcases hp : pull8 s with ⟨v, s1⟩
    exact .next (((Keeps.pull8 hp).trans (.setNZ s1 v)).trans ⟨id, id, id, id, id⟩)

/-! The pushes that can be refused. -/

theorem execPea_keeping (a : Word) : Keeping s (execPea a s) := by
  unfold execPea
  split
  · exact .refused _
  · exact .next (.push16 a s)

theorem execPer_keeping (k : Word) : Keeping s (execPer k s) := by
  unfold execPer
  split
  · exact .refused _
  · exact .next (.push16 _ s)

theorem execPhd_keeping : Keeping s (execPhd s) := by
  unfold execPhd
  split
  · exact .refused _
  · exact .next (.push16 s.d s)

theorem execPei_keeping (k : Byte) : Keeping s (execPei k s) := by
  unfold execPei
  split
  · exact .refused _
  · split
    · exact .refused _
    · rcases hr : read16 (dpLocNew k s) s with ⟨v, s1⟩
      exact .next ((Keeps.reads (read16_readsTo hr)).trans (.push16 v s1))

/-! The control transfers. -/

theorem branchIf_keeping (c : Bool) (k : Byte) : Keeping s (branchIf c k s) := by
  refine .of_keeps ?_
  split
  · exact .jump s _
  · exact .advance s _

theorem execJmpAbsInd_keeping (a : Word) : Keeping s (execJmpAbsInd a s) := by
  unfold execJmpAbsInd
  split
  · exact .refused _
  · rcases hr : read16 (absIndLoc a s) s with ⟨v, s1⟩
    exact .of_keeps ((Keeps.reads (read16_readsTo hr)).trans (.jump s1 v))

theorem execJmpAbsXInd_keeping (a : Word) : Keeping s (execJmpAbsXInd a s) := by
  unfold execJmpAbsXInd
  rcases hr : read16 (absXIndLoc a s) s with ⟨v, s1⟩
  exact .of_keeps ((Keeps.reads (read16_readsTo hr)).trans (.jump s1 v))

theorem execJmpAbsIndLong_keeping (a : Word) : Keeping s (execJmpAbsIndLong a s) := by
  unfold execJmpAbsIndLong
  rcases hr : read24 (absIndLongLoc a) s with ⟨v, s1⟩
  exact .of_keeps ((Keeps.reads (read24_readsTo hr)).trans (.jumpLong s1 _ _))

theorem execJsrAbsXInd_keeping (a : Word) : Keeping s (execJsrAbsXInd a s) := by
  unfold execJsrAbsXInd
  split
  · exact .refused _
  · rcases hr : read16 (absXIndLoc a s) (push16 (s.pc + 2#16) s) with ⟨v, s1⟩
    exact .of_keeps (((Keeps.push16 _ s).trans (.reads (read16_readsTo hr))).trans (.jump s1 v))

theorem execJsl_keeping (a : Addr) : Keeping s (execJsl a s) := by
  unfold execJsl
  split
  · exact .refused _
  · exact .of_keeps (((Keeps.push8 s.pbr s).trans (.push16 _ _)).trans (.jumpLong _ _ _))

theorem execRts_keeping : Keeping s (execRts s) := by
  rcases hp : pull16 s with ⟨v, s1⟩
  rw [execRts, hp]
  exact .of_keeps ((Keeps.pull16 hp).trans (.jump s1 _))

theorem execRtl_keeping : Keeping s (execRtl s) := by
  unfold execRtl
  split
  · exact .refused _
  · rcases hp : pull16 s with ⟨v, s1⟩
    rcases hk : pull8 s1 with ⟨k, s2⟩
    simp only [hk]
    exact .of_keeps (((Keeps.pull16 hp).trans (.pull8 hk)).trans (.jumpLong s2 _ _))

/-- BIT immediate sets z alone (R192). -/
theorem execBitImm_keeping (v : Word) : Keeping s (execBitImm v s) :=
  .withOperand fun _ s1 _ => .next (.setFlagZ s1 _)

end

/-- Every instruction the variant has keeps the invariants: families by their operand form, the others by their own
meaning. Only the block moves look at the variant. -/
theorem exec_keeping {i : Instr} {s : State} (hv : s.cfg.variant.offers i.since = true) : Keeping s (exec i s) := by
  cases i
  case adcDpXInd | adcSr | adcDp | adcDpIndLong | adcImm | adcAbs | adcLong | adcDpIndY | adcDpInd | adcSrIndY |
      adcDpX | adcDpIndLongY | adcAbsY | adcAbsX | adcLongX => exact .of_form (adcForm_exec rfl) (adc_keeping _)
  case sbcDpXInd | sbcSr | sbcDp | sbcDpIndLong | sbcImm | sbcAbs | sbcLong | sbcDpIndY | sbcDpInd | sbcSrIndY |
      sbcDpX | sbcDpIndLongY | sbcAbsY | sbcAbsX | sbcLongX => exact .of_form (sbcForm_exec rfl) (sbc_keeping _)
  case andDpXInd | andSr | andDp | andDpIndLong | andImm | andAbs | andLong | andDpIndY | andDpInd | andSrIndY |
      andDpX | andDpIndLongY | andAbsY | andAbsX | andLongX => exact .of_form (andForm_exec rfl) (andA_keeping _)
  case eorDpXInd | eorSr | eorDp | eorDpIndLong | eorImm | eorAbs | eorLong | eorDpIndY | eorDpInd | eorSrIndY |
      eorDpX | eorDpIndLongY | eorAbsY | eorAbsX | eorLongX => exact .of_form (eorForm_exec rfl) (eorA_keeping _)
  case oraDpXInd | oraSr | oraDp | oraDpIndLong | oraImm | oraAbs | oraLong | oraDpIndY | oraDpInd | oraSrIndY |
      oraDpX | oraDpIndLongY | oraAbsY | oraAbsX | oraLongX => exact .of_form (oraForm_exec rfl) (oraA_keeping _)
  case cmpDpXInd | cmpSr | cmpDp | cmpDpIndLong | cmpImm | cmpAbs | cmpLong | cmpDpIndY | cmpDpInd | cmpSrIndY |
      cmpDpX | cmpDpIndLongY | cmpAbsY | cmpAbsX | cmpLongX => exact .of_form (cmpForm_exec rfl) (cmpA_keeping _)
  case ldaDpXInd | ldaSr | ldaDp | ldaDpIndLong | ldaImm | ldaAbs | ldaLong | ldaDpIndY | ldaDpInd | ldaSrIndY |
      ldaDpX | ldaDpIndLongY | ldaAbsY | ldaAbsX | ldaLongX => exact .of_form (ldaForm_exec rfl) (loadA_keeping _)
  case staDpXInd | staSr | staDp | staDpIndLong | staAbs | staLong | staDpIndY | staDpInd | staSrIndY | staDpX |
      staDpIndLongY | staAbsY | staAbsX | staLongX => exact .of_form (staForm_exec rfl) (.store _ _ _)
  case aslDp | aslAbs | aslDpX | aslAbsX | lsrDp | lsrAbs | lsrDpX | lsrAbsX | rolDp | rolAbs | rolDpX | rolAbsX |
      rorDp | rorAbs | rorDpX | rorAbsX =>
    exact .of_form (shiftForm_exec rfl) (.modify (shifted_state _) (shifted_keeps _))
  case decDp | decAbs | decDpX | decAbsX => exact .of_form (decForm_exec rfl) (.modify decrement_state decrement_keeps)
  case incDp | incAbs | incDpX | incAbsX => exact .of_form (incForm_exec rfl) (.modify increment_state increment_keeps)
  case trbDp | trbAbs => exact .of_form (trbForm_exec rfl) (.modify testReset_state testReset_keeps)
  case tsbDp | tsbAbs => exact .of_form (tsbForm_exec rfl) (.modify testSet_state testSet_keeps)
  case aslA | lsrA | rolA | rorA => exact .of_form (shiftAccForm_exec rfl) (.modifyAcc (shifted_keeps _))
  case incA => exact .modifyAcc increment_keeps
  case decA => exact .modifyAcc decrement_keeps
  case bitDp | bitAbs | bitDpX | bitAbsX => exact .of_form (bitForm_exec rfl) (bitMem_keeping _)
  case bitImm => exact execBitImm_keeping _
  case cpxImm | cpxDp | cpxAbs => exact .of_form (cpxForm_exec rfl) (cmpX_keeping _)
  case cpyImm | cpyDp | cpyAbs => exact .of_form (cpyForm_exec rfl) (cmpY_keeping _)
  case ldxImm | ldxDp | ldxAbs => exact .of_form (ldxForm_exec rfl) (loadX_keeping _)
  case ldyImm | ldyDp | ldyAbs | ldyDpX | ldyAbsX => exact .of_form (ldyForm_exec rfl) (loadY_keeping _)
  case ldxDpX | ldxAbsX => exact loadXIndexed_keeping _ _
  case stxDp | stxAbs | stxDpY => exact .of_form (stxForm_exec rfl) (.store _ _ _)
  case styDp | styAbs | styDpX => exact .of_form (styForm_exec rfl) (.store _ _ _)
  case stzDp | stzDpX | stzAbs | stzAbsX => exact .of_form (stzForm_exec rfl) (.store _ _ _)
  case mvn | mvp => exact .of_keeps (.moveByte (Variant.eq_v65816_of_offers hv) _ _ _)
  case xce => exact .next (.exchangeCarryEmulation s)
  case brk | cop => exact .of_keeps (.interrupt _ _ s)
  case rti => exact .of_keeps (.returnFromInterrupt s)
  case rep => exact .next (.clearStatusBits _ s)
  case sep => exact .next (.setStatusBits _ s)
  case clc | sec => exact .next (.setFlagC s _)
  case cld | sed => exact .next (.setFlagD s _)
  case cli | sei => exact .next (.setFlagI s _)
  case clv => exact .next (.setFlagV s _)
  case nop | wdm => exact .next (.refl s)
  case wai | stp => exact .next ⟨id, id, id, id, id⟩
  case dex | inx | tax | tsx | tyx => exact .next (.setXNZ rfl _)
  case dey | iny | tay | txy => exact .next (.setYNZ rfl _)
  case txa | tya => exact .next (.setAccNZ s _ _)
  case tdc | tsc => exact .next (.setAccNZ s .w16 _)
  case tcd => exact .next ((Keeps.setNZ s s.c).trans ⟨id, id, id, id, id⟩)
  case xba => exact .next ((Keeps.setNZ s s.b).trans ⟨id, id, id, id, id⟩)
  case tcs | txs => exact .next (.setS s _)
  case pha | phx | phy => exact .next (.pushAt _ _ s)
  case phb | phk | php => exact .next (.push8 _ s)
  case pla => exact execPla_keeping
  case plx => exact execPlx_keeping
  case ply => exact execPly_keeping
  case plp => exact execPlp_keeping
  case pld => exact execPld_keeping
  case plb => exact execPlb_keeping
  case pea => exact execPea_keeping _
  case per => exact execPer_keeping _
  case phd => exact execPhd_keeping
  case pei => exact execPei_keeping _
  case bcc | bcs | beq | bne | bmi | bpl | bvc | bvs => exact branchIf_keeping _ _
  case bra | brl | jmpAbs => exact .of_keeps (.jump s _)
  case jmpLong => exact .of_keeps (.jumpLong s _ _)
  case jsrAbs => exact .of_keeps ((Keeps.push16 _ s).trans (.jump _ _))
  case jmpAbsInd => exact execJmpAbsInd_keeping _
  case jmpAbsXInd => exact execJmpAbsXInd_keeping _
  case jmpAbsIndLong => exact execJmpAbsIndLong_keeping _
  case jsrAbsXInd => exact execJsrAbsXInd_keeping _
  case jsl => exact execJsl_keeping _
  case rts => exact execRts_keeping
  case rtl => exact execRtl_keeping

end Sys2Proof.Machine

/-! Which instructions write e, D, DBR, PBR and the run state. -/

namespace Sys2Proof.Machine

section
variable {i : Instr}

theorem eq_xce_of_mem : .e ∈ beyondRegisters i → i = .xce := by
  cases i
  case xce => exact fun _ => rfl
  all_goals exact nofun

theorem eq_of_d_mem : .d ∈ beyondRegisters i → i = .tcd ∨ i = .pld := by
  cases i
  case tcd | pld => simp
  all_goals exact nofun

theorem eq_of_dbr_mem : .dbr ∈ beyondRegisters i → i = .plb ∨ ∃ k1 k2, i = .mvn k1 k2 ∨ i = .mvp k1 k2 := by
  cases i
  case plb | mvn | mvp => simp
  all_goals exact nofun

theorem eq_of_pbr_mem : .pbr ∈ beyondRegisters i →
    i = .rtl ∨ i = .rti ∨ (∃ a, i = .jmpLong a ∨ i = .jsl a) ∨ (∃ a, i = .jmpAbsIndLong a) ∨
      ∃ k, i = .brk k ∨ i = .cop k := by
  cases i
  case rtl | rti | jmpLong | jsl | jmpAbsIndLong | brk | cop => simp
  all_goals exact nofun

theorem eq_of_run_mem : .run ∈ beyondRegisters i → i = .wai ∨ i = .stp ∨ ∃ k, i = .brk k ∨ i = .cop k := by
  cases i
  case wai | stp | brk | cop => simp
  all_goals exact nofun

end

section
variable {i : Instr} {s t : State}

/-- A field beyond the registers that an instruction changes is one of its own. -/
theorem mem_beyondRegisters_of_changed (h : exec i s = .next t) {f : Field} (hf : f ∉ registers) (hne : ¬ f.same s t) :
    f ∈ beyondRegisters i := by
  by_contra hb
  exact hne ((exec_framed h).same f fun hm => (List.mem_append.1 hm).elim hf hb)

theorem exec_e_changed (h : exec i s = .next t) (hne : t.e ≠ s.e) : i = .xce :=
  eq_xce_of_mem (mem_beyondRegisters_of_changed h (by decide) hne)

theorem exec_d_changed (h : exec i s = .next t) (hne : t.d ≠ s.d) : i = .tcd ∨ i = .pld :=
  eq_of_d_mem (mem_beyondRegisters_of_changed h (by decide) hne)

theorem exec_dbr_changed (h : exec i s = .next t) (hne : t.dbr ≠ s.dbr) :
    i = .plb ∨ ∃ k1 k2, i = .mvn k1 k2 ∨ i = .mvp k1 k2 :=
  eq_of_dbr_mem (mem_beyondRegisters_of_changed h (by decide) hne)

theorem exec_pbr_changed (h : exec i s = .next t) (hne : t.pbr ≠ s.pbr) :
    i = .rtl ∨ i = .rti ∨ (∃ a, i = .jmpLong a ∨ i = .jsl a) ∨ (∃ a, i = .jmpAbsIndLong a) ∨
      ∃ k, i = .brk k ∨ i = .cop k :=
  eq_of_pbr_mem (mem_beyondRegisters_of_changed h (by decide) hne)

theorem exec_run_changed (h : exec i s = .next t) (hne : t.run ≠ s.run) :
    i = .wai ∨ i = .stp ∨ ∃ k, i = .brk k ∨ i = .cop k :=
  eq_of_run_mem (mem_beyondRegisters_of_changed h (by decide) hne)

/-- With e = 1 a return from an interrupt leaves PBR alone (R342). -/
theorem returnFromInterrupt_pbr (he : s.e = true) : (returnFromInterrupt s).pbr = s.pbr := by
  obtain ⟨v, s1, a, s2, hv, ha, h⟩ := returnFromInterrupt_cases s
  rcases h with ⟨_, h⟩ | ⟨hn, _⟩
  · have hs2 := ((RegsTo.pull8 hv).trans (.restoreStatus v s1)).trans (.pull16 ha)
    rw [h]
    exact hs2.sameBut .pbr (by decide)
  · exact absurd (he.symm.trans hn) Bool.noConfusion

/-! The 8-bit variants have no instruction that changes e, D, DBR, or PBR to a bank other than 0. -/

theorem exec_invI1 (hv : s.cfg.variant.offers i.since = true) (h : exec i s = .next t) (h1 : s.InvI1) : t.InvI1 := by
  have hcfg : t.cfg = s.cfg := exec_hostFields h (f := .cfg) (by decide)
  intro hne
  rw [hcfg] at hne
  obtain ⟨he, hd, hdbr, hpbr⟩ := h1 hne
  have hlacks {j : Instr} (hj : j.since = .v65816) (hij : i = j) : False :=
    hne (Variant.eq_v65816_of_offers (hj ▸ hij ▸ hv))
  refine ⟨he ▸ ?_, hd ▸ ?_, hdbr ▸ ?_, ?_⟩
  · by_contra hc
    exact hlacks rfl (exec_e_changed h hc)
  · by_contra hc
    exact (exec_d_changed h hc).elim (hlacks rfl) (hlacks rfl)
  · by_contra hc
    rcases exec_dbr_changed h hc with hi | ⟨k1, k2, hi | hi⟩ <;> exact hlacks rfl hi
  · by_contra hc
    rcases exec_pbr_changed h (hpbr ▸ hc) with hi | rfl | ⟨a, hi | hi⟩ | ⟨a, hi⟩ | ⟨k, rfl | hi⟩
    case inr.inl =>
      cases h
      exact hc ((returnFromInterrupt_pbr he).trans hpbr)
    case inr.inr.inr.inr.inl =>
      cases h
      obtain ⟨_, _, _, _, _, hint⟩ := interrupt_state .brk (s.pc + 2#16) s
      exact hc (by rw [hint])
    all_goals exact hlacks rfl hi

/-- Only WAI and STP, which V65816 alone has, leave the run state `Running` (R45). -/
theorem exec_invRun (hv : s.cfg.variant.offers i.since = true) (h : exec i s = .next t) (hrun : s.InvRun) : t.InvRun := by
  have hcfg : t.cfg = s.cfg := exec_hostFields h (f := .cfg) (by decide)
  intro hne
  rw [hcfg]
  by_cases hc : t.run = s.run
  · exact hrun (hc ▸ hne)
  · rcases exec_run_changed h hc with rfl | rfl | ⟨k, rfl | rfl⟩
    · exact Variant.eq_v65816_of_offers hv
    · exact Variant.eq_v65816_of_offers hv
    all_goals
      cases h
      exact absurd rfl hne

end

/-! The invariants over a step. -/

section
variable {s t : State}

/-- A step keeps I2, I3, I4, the canonical form of memory, and bank 0 (R34, R61). -/
theorem step_keeps (h : step s = .next t) : Keeps s t := by
  rcases step_cases h with ⟨_, rfl⟩ | ⟨_, rfl⟩ | ⟨_, rfl⟩ | ⟨_, rfl⟩ | ⟨_, rfl⟩ | ⟨_, i, hi, hx⟩
  · exact .resetSequence s
  · exact Keeps.trans (t := { s with nmiPending := false }) ⟨id, id, id, id, id⟩ (.interrupt .nmi s.pc _)
  · exact .interrupt .irq s.pc s
  · exact ⟨id, id, id, id, id⟩
  · exact .refl _
  · exact exec_keeping (fetchInstr_offers hi) t hx

/-- An entry leaves e, D and DBR alone and sets PBR to 0 (R386). -/
theorem interrupt_invI1 (kind : InterruptKind) (ret : Word) (h1 : s.InvI1) : (interrupt kind ret s).InvI1 := by
  obtain ⟨m, l, k, q, target, h⟩ := interrupt_state kind ret s
  rw [h]
  intro hne
  obtain ⟨he, hd, hdbr, _⟩ := h1 hne
  exact ⟨he, hd, hdbr, rfl⟩

theorem step_invI1 (h : step s = .next t) (h1 : s.InvI1) : t.InvI1 := by
  rcases step_cases h with ⟨_, rfl⟩ | ⟨_, rfl⟩ | ⟨_, rfl⟩ | ⟨_, rfl⟩ | ⟨_, rfl⟩ | ⟨_, i, hi, hx⟩
  · obtain ⟨x, y, z, l, k, target, hr⟩ := resetSequence_state s
    rw [hr]
    exact fun _ => ⟨rfl, rfl, rfl, rfl⟩
  · exact interrupt_invI1 (s := { s with nmiPending := false }) .nmi s.pc h1
  · exact interrupt_invI1 .irq s.pc h1
  · exact h1
  · exact h1
  · exact exec_invI1 (fetchInstr_offers hi) hx h1

theorem step_invRun (h : step s = .next t) (hrun : s.InvRun) : t.InvRun := by
  rcases step_cases h with ⟨_, rfl⟩ | ⟨_, rfl⟩ | ⟨_, rfl⟩ | ⟨_, rfl⟩ | ⟨_, rfl⟩ | ⟨_, i, hi, hx⟩
  · obtain ⟨x, y, z, l, k, target, hr⟩ := resetSequence_state s
    rw [hr]
    exact absurd rfl
  · exact absurd rfl
  · exact absurd rfl
  · exact absurd rfl
  · exact hrun
  · exact exec_invRun (fetchInstr_offers hi) hx hrun

/-- No step sets the latch of the ABORT input or changes the parameters (O15). -/
theorem step_invAbort (h : step s = .next t) (ha : s.InvAbort) : t.InvAbort := by
  obtain ⟨hcfg, _, _, _, habort⟩ := parametersAndLinesConstant s t h
  intro hp
  rw [hcfg]
  rcases habort with habort | ⟨_, habort⟩
  · exact ha (habort ▸ hp)
  · exact absurd (hp.symm.trans habort) Bool.noConfusion

end

/-- Settles O11: each part of the invariant over a step. -/
theorem invariantKept : Obligations.InvariantKept := fun _ _ hs h =>
  have hk := step_keeps h
  { i1 := step_invI1 h hs.i1
    i2 := hk.i2 hs.i2
    i3 := hk.i3 hs.i3
    i4 := hk.i4 hs.i4
    run := step_invRun h hs.run
    abort := step_invAbort h hs.abort
    mem := hk.wf hs.mem }

/-- Settles O14: every store of an 8-bit variant is a push, which goes to bank 0, or goes to a location that
`resolve_wrap_or_bank` speaks of; the block moves are V65816's alone. -/
theorem eightBitVariantsStayInBank0 : Obligations.EightBitVariantsStayInBank0 :=
  fun _ _ _ h0 h => (step_keeps h).bank0 h0

/-- Settles O12: every field of the state after reset is written out. -/
theorem invariantAtReset : Obligations.InvariantAtReset :=
  ⟨{ i1 := fun h => absurd rfl h
     i2 := fun _ => ⟨rfl, rfl⟩
     i3 := fun _ => rfl
     i4 := fun _ => ⟨rfl, rfl⟩
     run := fun h => absurd rfl h
     abort := Bool.noConfusion
     mem := reset_mem_wf }, fun h => absurd rfl h⟩

/-! The moves of the host. -/

/-- A move of the host drives a line or sets a latch, and the Overflow pin sets v where it is connected (R254, R403). -/
theorem hostAct_cases (h : HostAction) (s : State) :
    (∃ irq nmi res abort, (abort = true → s.abortPending = true ∨ s.cfg.abortModelled = true) ∧
      hostAct h s = { s with irqLine := irq, nmiPending := nmi, resetLine := res, abortPending := abort }) ∨
    (h = .setOverflow ∧ s.cfg.soConnected = true ∧ hostAct h s = s.setFlagV true) := by
  cases h with
  | irqLine level => exact .inl ⟨level, s.nmiPending, s.resetLine, s.abortPending, .inl, rfl⟩
  | nmiEdge => exact .inl ⟨s.irqLine, true, s.resetLine, s.abortPending, .inl, rfl⟩
  | resetLine level => exact .inl ⟨s.irqLine, s.nmiPending, level, s.abortPending, .inl, rfl⟩
  | abortEdge =>
    by_cases ha : s.cfg.abortModelled = true
    · exact .inl ⟨s.irqLine, s.nmiPending, s.resetLine, true, fun _ => .inr ha, by rw [hostAct, if_pos ha]⟩
    · exact .inl ⟨s.irqLine, s.nmiPending, s.resetLine, s.abortPending, .inl, by rw [hostAct, if_neg ha]⟩
  | setOverflow =>
    by_cases ho : s.cfg.soConnected = true
    · exact .inr ⟨rfl, ho, by rw [hostAct, if_pos ho]⟩
    · exact .inl ⟨s.irqLine, s.nmiPending, s.resetLine, s.abortPending, .inl, by rw [hostAct, if_neg ho]⟩

/-- Settles O13, by what a move of the host can change: the four inputs, or v. -/
theorem invariantKeptByHost : Obligations.InvariantKeptByHost := by
  intro h s hs
  rcases hostAct_cases h s with ⟨irq, nmi, res, abort, hab, hact⟩ | ⟨rfl, ho, hact⟩
  · rw [hact]
    refine ⟨?_, ?_, fun _ => rfl, rfl, fun f _ => by cases f <;> rfl, fun hv => absurd rfl hv⟩
    · exact { i1 := hs.i1, i2 := hs.i2, i3 := hs.i3, i4 := hs.i4, run := hs.run
              abort := fun hp => (hab hp).elim hs.abort id, mem := hs.mem }
    · intro f hf
      cases f <;> simp at hf <;> rfl
  · rw [hact]
    have hk := Keeps.setFlagV s true
    refine ⟨?_, ?_, fun _ => rfl, rfl, ?_, fun _ => ⟨rfl, ho, State.setFlagV_flagV s true⟩⟩
    · exact { i1 := hs.i1, i2 := hk.i2 hs.i2, i3 := hs.i3, i4 := hk.i4 hs.i4, run := hs.run, abort := hs.abort
              mem := hs.mem }
    · intro f hf
      cases f <;> simp at hf <;> rfl
    · intro f hf
      cases f <;> simp [Flag.of] at hf ⊢

/-! The writers of e, D, DBR and PBR. -/

/-- Settles O16: a reset sets e, XCE exchanges it with c, and nothing else a step can do writes it. -/
theorem emulationBitWriters : Obligations.EmulationBitWriters := by
  intro s t h hne
  rcases step_cases h with ⟨hr, rfl⟩ | ⟨_, rfl⟩ | ⟨_, rfl⟩ | ⟨_, rfl⟩ | ⟨_, rfl⟩ | ⟨_, i, hi, hx⟩
  · obtain ⟨x, y, z, l, k, target, hreset⟩ := resetSequence_state s
    exact .inl ⟨(sample_reset_iff s).1 hr, by rw [hreset]⟩
  · exact absurd (interrupt_sameBut .nmi s.pc { s with nmiPending := false } .e (by decide)) hne
  · exact absurd (interrupt_sameBut .irq s.pc s .e (by decide)) hne
  · exact absurd rfl hne
  · exact absurd rfl hne
  · obtain rfl := exec_e_changed hx hne
    obtain ⟨q, x, y, z, hxce⟩ := exchangeCarryEmulation_state s
    refine .inr ⟨hi, hx, ?_⟩
    cases hx
    rw [hxce]
    rfl

/-- An entry changes neither D nor DBR, and PBR becomes 0 (R386). -/
theorem interrupt_banks (kind : InterruptKind) (ret : Word) (s : State) :
    (interrupt kind ret s).d = s.d ∧ (interrupt kind ret s).dbr = s.dbr ∧ (interrupt kind ret s).pbr = 0#8 := by
  obtain ⟨m, l, k, q, target, h⟩ := interrupt_state kind ret s
  rw [h]
  exact ⟨rfl, rfl, rfl⟩

/-- Settles O17: with no reset, only an interrupt entry and the instructions of `beyondRegisters` write them. -/
theorem directPageAndBankWriters : Obligations.DirectPageAndBankWriters := by
  intro s t h hreset
  rcases step_cases h with ⟨hr, _⟩ | ⟨hs, rfl⟩ | ⟨hs, rfl⟩ | ⟨_, rfl⟩ | ⟨_, rfl⟩ | ⟨_, i, hi, hx⟩
  · exact absurd ((sample_reset_iff s).1 hr) (by simp [hreset])
  · obtain ⟨hd, hdbr, hpbr⟩ := interrupt_banks .nmi s.pc { s with nmiPending := false }
    exact ⟨absurd hd, absurd hdbr, fun _ => .inl ⟨hpbr, .inl hs⟩⟩
  · obtain ⟨hd, hdbr, hpbr⟩ := interrupt_banks .irq s.pc s
    exact ⟨absurd hd, absurd hdbr, fun _ => .inl ⟨hpbr, .inr hs⟩⟩
  · exact ⟨absurd rfl, absurd rfl, absurd rfl⟩
  · exact ⟨absurd rfl, absurd rfl, absurd rfl⟩
  · simp only [hi, Except.ok.injEq]
    exact ⟨exec_d_changed hx, exec_dbr_changed hx, fun hne => .inr (exec_pbr_changed hx hne)⟩

end Sys2Proof.Machine

/-! Reads of several bytes: where the bytes lie and what is read (R62, R64). -/

namespace Sys2Proof.Machine

open Sys2Proof.Claims

/-- `lin(a)` as a number (R149). -/
theorem linear_toNat (u : Variant) (a : Addr) : (linear u a).toNat = a.toNat % addressSpace u := by
  cases u with
  | v65816 => exact (Nat.mod_eq_of_lt a.isLt).symm
  | v6502 | v65C02 => rw [linear, fullAddr_toNat, offsetOf_toNat]; simp [addressSpace]

theorem byteAddr_linear_toNat (u : Variant) (a : Addr) (k : Nat) :
    (byteAddr u ⟨a, .linear⟩ k).toNat = (a.toNat + k) % addressSpace u := by
  have hu : addressSpace u ∣ 2 ^ 24 := by cases u <;> decide
  rw [byteAddr, linear_toNat, BitVec.toNat_add, BitVec.toNat_ofNat, Nat.mod_mod_of_dvd _ hu, Nat.add_mod,
    Nat.mod_mod_of_dvd _ hu, ← Nat.add_mod]

theorem byteAddr_bank_toNat (u : Variant) (a : Addr) (k : Nat) :
    (byteAddr u ⟨a, .bank⟩ k).toNat = a.toNat / 65536 * 65536 + (a.toNat % 65536 + k) % 65536 := by
  simp only [byteAddr, fullAddr_toNat, bankOf_toNat, offsetOf_toNat, BitVec.toNat_add, BitVec.toNat_ofNat]
  omega

theorem byteAddr_page_toNat (u : Variant) (a : Addr) (k : Nat) :
    (byteAddr u ⟨a, .page⟩ k).toNat = a.toNat / 256 * 256 + (a.toNat % 256 + k) % 256 := by
  simp only [byteAddr, fullAddr_toNat, bankOf_toNat, append_toNat, high_toNat, low_toNat, offsetOf_toNat,
    BitVec.toNat_add, BitVec.toNat_ofNat]
  omega

/-- The bytes of a `BANK` location (R64). -/
theorem byteAddr_bank_fullAddr (u : Variant) (b : Byte) (o : Word) (k : Nat) :
    byteAddr u ⟨fullAddr b o, .bank⟩ k = fullAddr b (o + BitVec.ofNat 16 k) := by
  simp [byteAddr]

section
variable {s : State} {l : Loc} {a : Addr}

/-- A read outside `IO_REGIONS` gives the byte memory holds and changes nothing (R62). -/
theorem readByte_plain (h : s.isIo a = false) : readByte a s = (s.byteAt a, s) := by
  simp [readByte, h]

theorem read16_plain (h0 : s.isIo (byteAddr s.cfg.variant l 0) = false)
    (h1 : s.isIo (byteAddr s.cfg.variant l 1) = false) :
    read16 l s = (s.byteAt (byteAddr s.cfg.variant l 1) ++ s.byteAt (byteAddr s.cfg.variant l 0), s) := by
  simp only [read16, readByte_plain h0, readByte_plain h1]

theorem read24_plain (h0 : s.isIo (byteAddr s.cfg.variant l 0) = false)
    (h1 : s.isIo (byteAddr s.cfg.variant l 1) = false) (h2 : s.isIo (byteAddr s.cfg.variant l 2) = false) :
    read24 l s = (fullAddr (s.byteAt (byteAddr s.cfg.variant l 2))
      (s.byteAt (byteAddr s.cfg.variant l 1) ++ s.byteAt (byteAddr s.cfg.variant l 0)), s) := by
  simp only [read24, read16_plain h0 h1, readByte_plain h2]
  rfl

end

/-- Settles O20, from the address of each byte by wrap kind and the reads outside `IO_REGIONS`. -/
theorem multiByteReads : Obligations.MultiByteReads := by
  intro s l
  refine ⟨fun a k => ⟨byteAddr_linear_toNat _ a k, byteAddr_bank_toNat _ a k, byteAddr_page_toNat _ a k⟩,
    fun h0 h1 => ?_, fun a ha => ⟨_, if_pos ha⟩⟩
  rw [read16_plain h0 h1]
  refine ⟨rfl, ?_, fun h2 => ?_⟩
  · simp only [append_toNat]; omega
  · rw [read24_plain h0 h1 h2]
    exact ⟨rfl, by simp only [fullAddr_toNat, append_toNat]; omega⟩

end Sys2Proof.Machine

/-! The fetches that are refused (R85, R97). -/

namespace Sys2Proof

/-- The decoder answers nothing where the variant lacks the opcode byte, and something where it has it (R97). -/
theorem decodeOp_eq_none {v : Variant} {op : Byte} (h : v.offers (opcodeCell op).since = false) (w : Widths)
    (b1 b2 b3 : Byte) : decodeOp v w op b1 b2 b3 = none := by
  simp [decodeOp, h]

theorem decodeOp_eq_some {v : Variant} {op : Byte} (h : v.offers (opcodeCell op).since = true) (w : Widths)
    (b1 b2 b3 : Byte) : decodeOp v w op b1 b2 b3 = some ((opcodeCell op).layout.assemble w b1 b2 b3) := by
  simp [decodeOp, h]

end Sys2Proof

namespace Sys2Proof.Machine

section
variable {s : State}

/-- Where the sampling lets the instruction execute, a fetch that is refused refuses the step (R11). -/
theorem step_of_fetch_refused {r : Refusal} (hs : sample s = .execute) (hf : fetchInstr s = .error r) :
    step s = .refused r := by
  simp [step, hs, hf]

/-- The opcode byte lies at `PBR:PC`. -/
theorem fetchAddr_zero (s : State) : fetchAddr s 0 = fullAddr s.pbr s.pc := by simp [fetchAddr]

theorem fetchByte_zero (s : State) : fetchByte s 0 = s.byteAt (fullAddr s.pbr s.pc) := by
  rw [fetchByte, fetchAddr_zero]

theorem fetchClear_one (s : State) : fetchClear s 1 = !s.isIo (fullAddr s.pbr s.pc) := by
  simp [fetchClear, List.range_succ, fetchAddr_zero]

/-! The three ways a fetch is refused: by the opcode byte's address, by the opcode byte, by a later byte's address. -/

theorem fetchInstr_of_opcode_io (hio : s.isIo (fullAddr s.pbr s.pc) = true) : fetchInstr s = .error .fetchFromIo := by
  simp [fetchInstr, fetchClear_one, hio]

theorem fetchInstr_of_not_offered (hio : s.isIo (fullAddr s.pbr s.pc) = false)
    (hop : s.cfg.variant.offers (opcodeCell (fetchByte s 0)).since = false) :
    fetchInstr s = .error (.illegalOpcode (fetchByte s 0)) := by
  simp [fetchInstr, fetchClear_one, hio, decodeOp_eq_none hop]

theorem fetchInstr_of_later_io (hio : s.isIo (fullAddr s.pbr s.pc) = false)
    (hop : s.cfg.variant.offers (opcodeCell (fetchByte s 0)).since = true)
    (hlater : ∃ k < fetchLength s, s.isIo (fetchAddr s k) = true) : fetchInstr s = .error .fetchFromIo := by
  obtain ⟨k, hk, hkio⟩ := hlater
  have hclear : fetchClear s (fetchLength s) = false :=
    Bool.eq_false_iff.2 fun h => Bool.noConfusion (hkio.symm.trans (fetchClear_iff.1 h k hk))
  simp [fetchInstr, fetchClear_one, hio, decodeOp_eq_some hop, hclear]

end

/-- Settles O7, by the three ways a fetch is refused. -/
theorem stepRefusesTheFetch : Obligations.StepRefusesTheFetch := by
  intro s hreset hrun habort hnmi hirq
  have hs := sample_execute hreset hrun habort hnmi hirq
  rw [← fetchByte_zero]
  exact ⟨fun hio => step_of_fetch_refused hs (fetchInstr_of_opcode_io hio),
    fun hio hop => step_of_fetch_refused hs (fetchInstr_of_not_offered hio hop),
    fun hio hop hlater => step_of_fetch_refused hs (fetchInstr_of_later_io hio hop hlater)⟩

end Sys2Proof.Machine

/-! Pulls: where S goes, what is read, and what stays (R70, R72). -/

namespace Sys2Proof.Machine

theorem stackUp_add (e : Bool) (sp : Word) (m n : Nat) : stackUp e (stackUp e sp m) n = stackUp e sp (m + n) := by
  induction m generalizing sp with
  | zero => simp [stackUp]
  | succ m ih => rw [Nat.succ_add]; exact ih _

/-- In native mode S goes up within bank 0 (R72). -/
theorem stackUp_native_toNat (sp : Word) (n : Nat) : (stackUp false sp n).toNat = (sp.toNat + n) % 65536 := by
  induction n generalizing sp with
  | zero => exact (Nat.mod_eq_of_lt sp.isLt).symm
  | succ n ih =>
    rw [stackUp, ih]
    simp only [Bool.false_eq_true, if_false, BitVec.toNat_add, BitVec.toNat_ofNat]
    omega

/-- In emulation mode S goes up within page 1, from whatever page it was in (R72). -/
theorem stackUp_emulation_toNat (sp : Word) (n : Nat) :
    (stackUp true sp (n + 1)).toNat = 0x100 + (sp.toNat + (n + 1)) % 256 := by
  induction n generalizing sp with
  | zero => simp only [stackUp, if_true, append_toNat, BitVec.toNat_add, low_toNat, BitVec.toNat_ofNat]; omega
  | succ n ih =>
    rw [stackUp, ih]
    simp only [if_true, append_toNat, BitVec.toNat_add, low_toNat, BitVec.toNat_ofNat]
    omega

/-- S after at least one pull, as a number (R72). -/
theorem stackUp_toNat (e : Bool) (sp : Word) (n : Nat) :
    (stackUp e sp (n + 1)).toNat =
      if e then 0x100 + (sp.toNat + (n + 1)) % 256 else (sp.toNat + (n + 1)) % 65536 := by
  cases e with
  | false => exact stackUp_native_toNat sp (n + 1)
  | true => exact stackUp_emulation_toNat sp n

/-- `n` pulls lead from `s` to `t`: S is `n` up, and nothing else but the I/O record and the count of draws differs. -/
def PullsUp (n : Nat) (s t : State) : Prop := ∃ l k, t = { s with ioLog := l, draws := k, sp := stackUp s.e s.sp n }

section
variable {s t u : State} {m n : Nat}

theorem PullsUp.trans (h : PullsUp m s t) (h' : PullsUp n t u) : PullsUp (m + n) s u := by
  obtain ⟨l, k, rfl⟩ := h
  obtain ⟨l', k', rfl⟩ := h'
  exact ⟨l', k', by rw [← stackUp_add]⟩

theorem PullsUp.sp (h : PullsUp n s t) : t.sp = stackUp s.e s.sp n := by obtain ⟨l, k, rfl⟩ := h; rfl

theorem PullsUp.memSame (h : PullsUp n s t) : MemSame s t := by obtain ⟨l, k, rfl⟩ := h; exact fun _ => rfl

theorem PullsUp.sameBut (h : PullsUp n s t) : SameBut [.sp] s t := by
  obtain ⟨l, k, rfl⟩ := h
  intro f hf
  cases f <;> simp at hf <;> rfl

end

theorem pull8_pullsUp (s : State) : PullsUp 1 s (pull8 s).2 := pull8_state rfl

theorem pull16_pullsUp (s : State) : PullsUp 2 s (pull16 s).2 := pull16_state rfl

section
variable {s : State}

/-- A pull of one byte from outside `IO_REGIONS` (R72). -/
theorem pull8_plain (h1 : s.isIo (fullAddr 0#8 (stackUp s.e s.sp 1)) = false) :
    pull8 s = (s.byteAt (fullAddr 0#8 (stackUp s.e s.sp 1)), { s with sp := stackUp s.e s.sp 1 }) :=
  readByte_plain (s := { s with sp := stackUp s.e s.sp 1 }) h1

/-- A pull of two bytes from outside `IO_REGIONS`: the low byte lies one above S, the high byte two above (R72). -/
theorem pull16_plain (h1 : s.isIo (fullAddr 0#8 (stackUp s.e s.sp 1)) = false)
    (h2 : s.isIo (fullAddr 0#8 (stackUp s.e s.sp 2)) = false) :
    pull16 s = (s.byteAt (fullAddr 0#8 (stackUp s.e s.sp 2)) ++ s.byteAt (fullAddr 0#8 (stackUp s.e s.sp 1)),
      { s with sp := stackUp s.e s.sp 2 }) := by
  have hhigh := pull8_plain (s := { s with sp := stackUp s.e s.sp 1 }) h2
  rw [pull16, pull8_plain h1]
  simp only [hhigh]
  rfl

end

/-- Settles O48, from the moves of S (`stackUp_toNat`) and the pulls from outside `IO_REGIONS`. -/
theorem pulledValues : Obligations.PulledValues := by
  intro s up at'
  have hup (n : Nat) : (stackUp s.e s.sp (n + 1)).toNat = up (n + 1) := stackUp_toNat s.e s.sp n
  have hat (n : Nat) : at' (n + 1) = fullAddr 0#8 (stackUp s.e s.sp (n + 1)) := by
    simp only [at', ← hup, BitVec.ofNat_toNat, BitVec.setWidth_eq]
  have h8 := pull8_pullsUp s
  have h16 := pull16_pullsUp s
  rw [show at' 1 = fullAddr 0#8 (stackUp s.e s.sp 1) from hat 0,
    show at' 2 = fullAddr 0#8 (stackUp s.e s.sp 2) from hat 1]
  refine ⟨h8.sp ▸ hup 0, h16.sp ▸ hup 1, h8.sameBut, h16.sameBut, h8.memSame, h16.memSame, fun h1 => ?_,
    fun h1 h2 => ?_⟩
  · rw [pull8_plain h1]
    exact ⟨rfl, rfl⟩
  · rw [pull16_plain h1 h2, append_toNat]
    exact ⟨by omega, rfl⟩

end Sys2Proof.Machine

/-! The refusals at the edge of page 1 (R74). -/

namespace Sys2Proof.Machine

open Sys2Proof.Claims

section
variable {s : State} {i : Instr} {n : Nat}

/-- `WrapsPage1` of an instruction that pulls is what its meaning looks at (R74). -/
theorem pullWraps_iff (hpush : newPushBytes i = 0) (hpull : newPullBytes i = n) (hn : 0 < n) :
    pullWraps n s = true ↔ WrapsPage1 i s := by
  simp [pullWraps, WrapsPage1, hpush, hpull, hn]

/-- `WrapsPage1` of an instruction that pushes is what its meaning looks at (R74). -/
theorem pushWraps_iff (hpush : newPushBytes i = n) (hpull : newPullBytes i = 0) :
    pushWraps n s = true ↔ WrapsPage1 i s := by
  simp [pushWraps, WrapsPage1, hpush, hpull]

end

/-- An instruction that is refused for one reason only. -/
theorem ite_refused_iff {b : Bool} {r : Refusal} {t : State} :
    (if b then .refused r else .next t : Result) = .refused r ↔ b = true := by
  cases b <;> simp

/-- PEI where its mode is not refused (R149, R318). -/
theorem execPei_eq {k : Byte} {s : State} (h : dpNewCrosses k 2 s = false) :
    execPei k s =
      if pushWraps 2 s then .refused .stackWrapsPage1
      else .next ((push16 (read16 (dpLocNew k s) s).1 (read16 (dpLocNew k s) s).2).advance 2) := by
  simp only [execPei, h]
  rfl

/-- The mode of PEI is refused for its last operand only: the word there lies across the page end (R149). -/
theorem dpNewCrosses_two_iff (k : Byte) (s : State) :
    dpNewCrosses k 2 s = true ↔ k = 0xFF#8 ∧ s.cfg.variant = .v65816 ∧ s.e = true ∧ low s.d = 0#8 := by
  have hk : 0xFF < k.toNat + 2 - 1 ↔ k = 0xFF#8 := by bv_omega
  simp only [dpNewCrosses, Bool.and_eq_true, decide_eq_true_eq, beq_iff_eq, hk]
  tauto

/-- Settles O24: each of the nine instructions looks at its pushes or pulls before anything else, but PEI, which looks
at its mode first. -/
theorem stackWrapRefusals : Obligations.StackWrapRefusals := by
  intro i s hi hpei
  cases i
  case pea | per | phd | jsl | jsrAbsXInd => exact ite_refused_iff.trans (pushWraps_iff rfl rfl)
  case plb | pld | rtl => exact ite_refused_iff.trans (pullWraps_iff rfl rfl (by decide))
  case pei k =>
    have hcross : dpNewCrosses k 2 s = false := by
      refine Bool.eq_false_iff.2 fun h => hpei ?_
      simpa using (dpNewCrosses_two_iff k s).1 h
    rw [show exec (.pei k) s = execPei k s from rfl, execPei_eq hcross]
    exact ite_refused_iff.trans (pushWraps_iff rfl rfl)
  all_goals exact hi.elim (absurd · (Nat.lt_irrefl 0)) (absurd · (Nat.lt_irrefl 0))

end Sys2Proof.Machine

/-! Returns from subroutines (R251, R252). -/

namespace Sys2Proof.Machine

open Sys2Proof.Claims

section
variable {s : State}

theorem jump_sameBut (l : List Field) (s : State) (a : Word) : SameBut l s (s.jump a) := fun f _ => by cases f <;> rfl

/-- One past an address pulled from outside `IO_REGIONS` (R251). -/
theorem pull16_succ_toNat (h1 : s.isIo (fullAddr 0#8 (stackUp s.e s.sp 1)) = false)
    (h2 : s.isIo (fullAddr 0#8 (stackUp s.e s.sp 2)) = false) :
    ((pull16 s).1 + 1#16).toNat = ((s.byteAt (fullAddr 0#8 (stackUp s.e s.sp 1))).toNat +
      256 * (s.byteAt (fullAddr 0#8 (stackUp s.e s.sp 2))).toNat + 1) % 65536 := by
  rw [pull16_plain h1 h2, BitVec.toNat_add, append_toNat, BitVec.toNat_ofNat]
  omega

theorem execRts_eq (s : State) : execRts s = .next ((pull16 s).2.jump ((pull16 s).1 + 1#16)) := rfl

/-- RTL where it is not refused (R252). -/
theorem execRtl_eq (h : ¬ WrapsPage1 .rtl s) :
    execRtl s = .next ((pull8 (pull16 s).2).2.jumpLong (pull8 (pull16 s).2).1 ((pull16 s).1 + 1#16)) :=
  if_neg fun hw => h ((pullWraps_iff rfl rfl (by decide)).1 hw)

end

/-- Settles O42, from what the pulls read and change. -/
theorem subroutineReturns : Obligations.SubroutineReturns := by
  intro s at'
  have h16 := pull16_pullsUp s
  have hall : PullsUp 3 s (pull8 (pull16 s).2).2 := h16.trans (pull8_pullsUp _)
  refine ⟨⟨_, execRts_eq s, rfl, h16.sp, h16.sameBut.trans (jump_sameBut _ _ _), ⟨h16.memSame, rfl, rfl⟩,
      fun h1 h2 => ?_⟩,
    fun hw => ⟨_, execRtl_eq hw, rfl, rfl, hall.sp,
      (hall.sameBut.mono (by simp)).trans ((sameBut_jumpLong _ _ _).mono (by simp)), ⟨hall.memSame, rfl, rfl⟩,
      fun h1 h2 h3 => ?_⟩⟩
  · refine ⟨pull16_succ_toNat h1 h2, ?_⟩
    rw [pull16_plain h1 h2]
    rfl
  · refine ⟨pull16_succ_toNat h1 h2, ?_⟩
    have hbank := pull8_plain (s := { s with sp := stackUp s.e s.sp 2 }) h3
    rw [pull16_plain h1 h2]
    simp only [hbank]
    exact ⟨rfl, rfl⟩

end Sys2Proof.Machine

/-! Bytes stored after reads (R63, R65, R69): the stores, INC and DEC of memory. -/

namespace Sys2Proof.Machine

open Sys2Proof.Claims

theorem advance_sameBut (l : List Field) (s : State) (n : Nat) : SameBut l s (s.advance n) :=
  fun f _ => by cases f <;> rfl

theorem WritesTo.sameBut {s t : State} (h : WritesTo s t) (l : List Field) : SameBut l s t := by
  obtain ⟨m, k, rfl⟩ := h
  exact fun f _ => by cases f <;> rfl

theorem WritesTo.flag {s t : State} (h : WritesTo s t) (g : Flag) : g.of t = g.of s := by
  obtain ⟨m, k, rfl⟩ := h; cases g <;> rfl

theorem advance_flag (s : State) (n : Nat) (g : Flag) : g.of (s.advance n) = g.of s := by cases g <;> rfl

theorem setP_sameBut (s : State) (q : Byte) : SameBut [.p] s { s with p := q } := by
  intro f hf
  cases f <;> simp at hf <;> rfl

theorem WritesTo.pc {s t : State} (h : WritesTo s t) : t.pc = s.pc := by obtain ⟨m, k, rfl⟩ := h; rfl

/-- Bytes stored from a state that reads, and a change of P, have led to (R69). -/
theorem writeBytes_stored_of_reads {s r : State} (hm : Memory.wf s.mem) (hr : ReadsTo s r) (q : Byte) {l : List Store}
    (hl : (l.map (·.1)).Nodup) : BytesStored l s r (writeBytes l { r with p := q }) := by
  obtain ⟨k, d, rfl⟩ := hr
  exact writeBytes_stored (s := { s with ioLog := k, draws := d, p := q }) hm hl

/-- What a store that is not refused leaves (R65, R274 to R277). -/
theorem store_stored {s : State} {m : AddrMode} (hm : Memory.wf s.mem) (hr : m.refusal s = none) (w : Width)
    (v : BitVec w.bits) :
    ∃ t, store w m v s = .next t ∧ BytesStored (storeAt s.cfg.variant w (m.resolve s).1 v) s (m.resolve s).2 t ∧
      t.pc = s.pc + BitVec.ofNat 16 m.length ∧ SameBut [] s t := by
  rcases store_cases w m v s with ⟨r, hr', _⟩ | ⟨_, l, s1, hl, hs1, h⟩
  · exact nomatch hr.symm.trans hr'
  · have hw := writeBytes_writesTo (storeAt s.cfg.variant w l v) s1
    rw [hl]
    refine ⟨_, h, writeBytes_stored_of_reads hm hs1 s1.p (storeAt_nodup _ w l v), ?_, ?_⟩
    · rw [State.advance_pc, hw.pc, hs1.pc]
    · exact ((hs1.sameBut _).trans (hw.sameBut _)).trans (advance_sameBut _ _ _)

/-- An index register at a width is the register modulo the width (R22). -/
theorem eq_atWidth {w : Width} {v : BitVec w.bits} {x : Word} (h : v.toNat = x.toNat % 2 ^ w.bits) : v = atWidth w x :=
  BitVec.eq_of_toNat_eq (h.trans (by simp [atWidth]))

/-- The meaning and the length of STA, STX, STY and STZ, by what they store. -/
theorem storeForms_exec {i : Instr} {m : AddrMode} {w : Width} {v : BitVec w.bits} {s : State}
    (h : (staForm i = some m ∧ w = s.mw ∧ v = s.acc w) ∨
      (stxForm i = some m ∧ w = s.xw ∧ v.toNat = s.x.toNat % 2 ^ w.bits) ∨
      (styForm i = some m ∧ w = s.xw ∧ v.toNat = s.y.toNat % 2 ^ w.bits) ∨
      (stzForm i = some m ∧ w = s.mw ∧ v = 0)) :
    exec i s = store w m v s ∧ (encode s.widths i).length = m.length := by
  rcases h with ⟨hi, rfl, rfl⟩ | ⟨hi, rfl, hv⟩ | ⟨hi, rfl, hv⟩ | ⟨hi, rfl, rfl⟩
  · exact staForm_exec hi
  · exact eq_atWidth hv ▸ stxForm_exec hi
  · exact eq_atWidth hv ▸ styForm_exec hi
  · exact stzForm_exec hi

/-- Settles O44, from what a store leaves (`store_stored`). -/
theorem stores : Obligations.Stores := by
  intro i m w v s hm hr h
  obtain ⟨hexec, hlen⟩ := storeForms_exec h
  rw [hexec, pcNext_eq hlen]
  exact store_stored hm hr w v

/-- What a read-modify-write leaves whose mode neither is refused nor reads a pointer, and whose function changes P
alone: the result is stored where the old value was read, and the flags are those the function gave (R69). -/
theorem modify_stored {s : State} {w : Width} {m : AddrMode} {f : BitVec w.bits → State → BitVec w.bits × State}
    (hf : ∀ v t, ∃ q, (f v t).2 = { t with p := q }) (hm : Memory.wf s.mem) (hr : m.refusal s = none)
    (hres : (m.resolve s).2 = s) {old : BitVec w.bits} {s1 : State} (hold : readAt w (m.resolve s).1 s = (old, s1)) :
    ∃ t, modify w m s f = .next t ∧ BytesStored (storeAt s.cfg.variant w (m.resolve s).1 (f old s1).1) s s1 t ∧
      (∀ g : Flag, g.of t = g.of (f old s1).2) ∧ t.pc = s.pc + BitVec.ofNat 16 m.length ∧ SameBut [.p] s t := by
  rcases modify_cases w m s f hf with ⟨r, hr', _⟩ | ⟨_, l, s0, v, s2, hl, _, hv, _, h⟩
  · exact nomatch hr.symm.trans hr'
  · rw [hl] at hres hold
    obtain rfl : s0 = s := hres
    obtain ⟨rfl, rfl⟩ := Prod.mk.inj (hv.symm.trans hold)
    have hs1 := readAt_readsTo hv
    obtain ⟨q, hq⟩ := hf v s2
    have hw := writeBytes_writesTo (storeAt s0.cfg.variant w l (f v s2).1) { s2 with p := q }
    rw [hl]
    rw [hq] at h ⊢
    refine ⟨_, h, writeBytes_stored_of_reads hm hs1 q (storeAt_nodup _ w l _), fun g => ?_, ?_, ?_⟩
    · exact (advance_flag _ _ g).trans (hw.flag g)
    · rw [State.advance_pc, hw.pc]
      exact congrArg (· + _) hs1.pc
    · exact (((hs1.sameBut _).trans (setP_sameBut s2 q)).trans (hw.sameBut _)).trans (advance_sameBut _ _ _)

theorem one_toNat (w : Width) : (1 : BitVec w.bits).toNat = 1 := by cases w <;> rfl

/-- INC and DEC of memory: the meaning and the length by what the value written back is, which n and z follow. -/
theorem incDecForms_exec {i : Instr} {m : AddrMode} {d : Nat} {s : State}
    (h : (incForm i = some m ∧ d = 1) ∨ (decForm i = some m ∧ d = 2 ^ s.mw.bits - 1)) :
    ∃ g : BitVec s.mw.bits → BitVec s.mw.bits, (∀ v, (g v).toNat = (v.toNat + d) % 2 ^ s.mw.bits) ∧
      exec i s = modify s.mw m s (fun v t => (g v, t.setNZ (g v))) ∧ (encode s.widths i).length = m.length ∧
      m.refusal s = none ∧ (m.resolve s).2 = s := by
  rcases h with ⟨hi, rfl⟩ | ⟨hi, rfl⟩
  · refine ⟨(· + 1), fun v => ?_, incForm_exec hi⟩
    rw [BitVec.toNat_add, one_toNat]
  · refine ⟨(· - 1), fun v => ?_, decForm_exec hi⟩
    rw [BitVec.toNat_sub, one_toNat, Nat.add_comm]

/-- Settles O29, from what a read-modify-write leaves (`modify_stored`). -/
theorem incDecMemory : Obligations.IncDecMemory := by
  intro i m d s hm h w l old
  obtain ⟨g, hg, hexec, hlen, hr, hres⟩ := incDecForms_exec h
  obtain ⟨t, ht, hst, hflags, hpc, hsame⟩ :=
    modify_stored (f := fun v t => (g v, t.setNZ (g v))) (fun _ _ => ⟨_, rfl⟩) hm hr hres (Prod.eta old).symm
  refine ⟨t, g old.1, hexec.trans ht, hg _, hst, ?_, hpc.trans (pcNext_eq hlen).symm, hsame⟩
  exact flagsNZ_congr (setNZ_flagsNZ old.2 (g old.1)) (readAt_readsTo (w := w) (l := l) rfl).flag hflags

end Sys2Proof.Machine

/-! The pushes (R71, R310, R317 to R326) and the calls of subroutines (R248 to R250). -/

namespace Sys2Proof.Machine

open Sys2Proof.Claims

section
variable {s : State}

/-- What bytes pushed leave, from a state that reads have led to (R71). -/
structure Pushed (l : List Byte) (s r t : State) : Prop where
  stored : BytesStored (pushedAt s.e s.sp l) s r t
  sp : t.sp = stackDown s.e s.sp l.length
  pc : t.pc = s.pc
  same : SameBut [.sp] s t

theorem pushBytes_pushed {r : State} (hm : Memory.wf s.mem) (hr : ReadsTo s r) {l : List Byte} (hl : l.length ≤ 256) :
    Pushed l s r (pushBytes l r) := by
  obtain ⟨m, k, h⟩ := pushBytes_state l r
  obtain ⟨j, d, rfl⟩ := hr
  refine ⟨pushBytes_stored (s := { s with ioLog := j, draws := d }) hm hl, ?_, ?_, fun f hf => ?_⟩
  · rw [h]
  · rw [h]
  · rw [h]
    cases f <;> simp at hf <;> rfl

/-- What a push instruction leaves: the bytes pushed, S, PC past the instruction, and nothing else (R310). -/
theorem Pushed.advance {l : List Byte} {r u : State} (h : Pushed l s r u) (n : Nat) :
    BytesStored (pushedAt s.e s.sp l) s r (u.advance n) ∧ (u.advance n).sp = stackDown s.e s.sp l.length ∧
      (u.advance n).pc = s.pc + BitVec.ofNat 16 n ∧ SameBut [.sp] s (u.advance n) :=
  ⟨h.stored, h.sp, congrArg (· + _) h.pc, h.same.trans (advance_sameBut _ _ _)⟩

/-- The meaning of each push that reads no memory, where it is not refused, and that it pushes one byte or two. -/
theorem pushForm_exec {i : Instr} {l : List Byte} (h : pushForm s i = some l) (hw : ¬ WrapsPage1 i s) :
    exec i s = .next ((pushBytes l s).advance (encode s.widths i).length) ∧ l.length ≤ 2 := by
  have hpush {j : Instr} (hj : newPushBytes j = 2) (hj' : newPullBytes j = 0) (hij : ¬ WrapsPage1 j s) :
      ¬ pushWraps 2 s = true := fun h => hij ((pushWraps_iff hj hj').1 h)
  have horder (w : Width) (v : BitVec w.bits) : (pushOrder w v).length ≤ 2 := by cases w <;> simp [pushOrder]
  cases i <;> cases h
  case pha | phx | phy =>
    exact ⟨congrArg (fun u : State => (.next (u.advance 1) : Result)) (pushAt_eq _ _ s), horder _ _⟩
  case php | phb | phk => exact ⟨rfl, by simp⟩
  case phd | pea | per => exact ⟨if_neg (hpush rfl rfl hw), Nat.le_refl 2⟩

/-- PEI where it is not refused: the word is read, then pushed (R318). -/
theorem execPei_next {k : Byte} (hk : dpNewCrosses k 2 s = false) (hw : pushWraps 2 s = false) {v : Word} {s1 : State}
    (hr : read16 ⟨fullAddr 0#8 (s.d + k.zeroExtend 16), .bank⟩ s = (v, s1)) :
    execPei k s = .next ((pushBytes [high v, low v] s1).advance 2) := by
  have hr' : read16 (dpLocNew k s) s = (v, s1) := hr
  rw [execPei_eq hk, hw, hr']
  rfl

end

/-- Settles O50: the pushes by their form, and PEI; what they leave is `pushBytes_pushed`. -/
theorem pushes : Obligations.Pushes := by
  intro s hm
  refine ⟨fun i l hi hw => ?_, fun off hcross hwrap => ?_⟩
  · obtain ⟨hexec, hlen⟩ := pushForm_exec hi hw
    exact ⟨_, hexec, (pushBytes_pushed hm (.refl s) (Nat.le_trans hlen (by decide))).advance _⟩
  · have hk : dpNewCrosses off 2 s = false := by
      refine Bool.eq_false_iff.2 fun h => hcross ?_
      obtain ⟨hoff, hv, he, hd⟩ := (dpNewCrosses_two_iff off s).1 h
      exact ⟨hv, he, hd, hoff⟩
    have hw : pushWraps 2 s = false := by
      refine Bool.eq_false_iff.2 fun h => hwrap ?_
      obtain ⟨he, hs⟩ := Bool.and_eq_true_iff.1 h
      exact ⟨he, by have := of_decide_eq_true hs; bv_omega⟩
    rcases hr : read16 ⟨fullAddr 0#8 (s.d + off.zeroExtend 16), .bank⟩ s with ⟨v, s1⟩
    have hp : Pushed [high v, low v] s s1 _ := pushBytes_pushed hm (read16_readsTo hr) (by simp)
    exact ⟨_, execPei_next hk hw hr, hp.advance 2⟩

section
variable {s : State}

/-- JSL where it is not refused: the bank byte is pushed first (R250). -/
theorem execJsl_eq {k : Addr} (h : ¬ WrapsPage1 (.jsl k) s) :
    execJsl k s = .next ((pushBytes [s.pbr, high (s.pc + 3#16), low (s.pc + 3#16)] s).jumpLong (bankOf k)
      (offsetOf k)) :=
  if_neg fun hw => h ((pushWraps_iff rfl rfl).1 hw)

/-- JSR (addr,X) where it is not refused: the target is read after the return offset is pushed (R249). -/
theorem execJsrAbsXInd_eq {a : Word} (h : ¬ WrapsPage1 (.jsrAbsXInd a) s) :
    ∃ target t, read16 ⟨fullAddr s.pbr (a + s.x), .bank⟩ (pushBytes [high (s.pc + 2#16), low (s.pc + 2#16)] s) =
      (target, t) ∧ execJsrAbsXInd a s = .next (t.jump target) :=
  ⟨_, _, rfl, if_neg fun hw => h ((pushWraps_iff rfl rfl).1 hw)⟩

/-- A full address is its bank and its offset (R61). -/
theorem bankOf_offsetOf_toNat (a : Addr) : (bankOf a).toNat * 65536 + (offsetOf a).toNat = a.toNat := by
  rw [bankOf_toNat, offsetOf_toNat]
  omega

/-- A word read from the bytes of a `BANK` location outside `IO_REGIONS` (R62, R64). -/
theorem read16_bank_plain {b : Byte} {o : Word} (h0 : s.isIo (fullAddr b o) = false)
    (h1 : s.isIo (fullAddr b (o + 1#16)) = false) :
    read16 ⟨fullAddr b o, .bank⟩ s = (s.byteAt (fullAddr b (o + 1#16)) ++ s.byteAt (fullAddr b o), s) := by
  have hb0 : byteAddr s.cfg.variant ⟨fullAddr b o, .bank⟩ 0 = fullAddr b o := by simp [byteAddr_bank_fullAddr]
  have hb1 : byteAddr s.cfg.variant ⟨fullAddr b o, .bank⟩ 1 = fullAddr b (o + 1#16) :=
    byteAddr_bank_fullAddr _ _ _ _
  rw [read16_plain (by rwa [hb0]) (by rwa [hb1]), hb0, hb1]

end

/-- Settles O41, from what the pushes leave (`pushBytes_pushed`); JSR (addr,X) reads its target from memory as they
leave it. -/
theorem subroutineCalls : Obligations.SubroutineCalls := by
  intro s hm ret
  have h2 := pushBytes_pushed (l := [high (ret 2), low (ret 2)]) hm (.refl s) (by simp)
  have h3 := pushBytes_pushed (l := [s.pbr, high (ret 3), low (ret 3)]) hm (.refl s) (by simp)
  refine ⟨fun a => ⟨_, rfl, h2.stored, h2.sp, rfl, h2.same.trans (jump_sameBut _ _ _)⟩,
    fun k hw => ⟨_, execJsl_eq hw, h3.stored, h3.sp, bankOf_offsetOf_toNat k,
      (h3.same.mono (by simp)).trans ((sameBut_jumpLong _ _ _).mono (by simp))⟩, fun a hw => ?_⟩
  obtain ⟨target, t, hread, hexec⟩ := execJsrAbsXInd_eq hw
  obtain ⟨⟨hmem, hlog, hdraws⟩, hsp, _, hsame⟩ := h2
  have hr := read16_readsTo hread
  have hmem' : ∀ b, (t.jump target).byteAt b = (pushBytes [high (ret 2), low (ret 2)] s).byteAt b := hr.byteAt
  refine ⟨_, hexec, ⟨fun c hc => (hmem' _).trans (hmem.1 c hc), fun b hb => (hmem' b).trans (hmem.2 b hb)⟩,
    (hr.field .sp).trans hsp, (hsame.trans (hr.sameBut _)).trans (jump_sameBut _ _ _), fun h0 h1 => ?_⟩
  have hcfg : (pushBytes [high (ret 2), low (ret 2)] s).cfg = s.cfg := hsame .cfg (by decide)
  have hio (b : Addr) : (pushBytes [high (ret 2), low (ret 2)] s).isIo b = s.isIo b := by rw [State.isIo, hcfg]; rfl
  have hplain := read16_bank_plain ((hio _).trans h0) ((hio _).trans h1)
  obtain ⟨rfl, rfl⟩ := Prod.mk.inj (hread.symm.trans hplain)
  exact ⟨rfl, hlog, hdraws⟩

end Sys2Proof.Machine

/-! No operation changes a byte in `IO_REGIONS` or one that is not `Writable` (R62, R63). -/

namespace Sys2Proof.Machine

/-- From `s` to `t` the parameters stay, and so do the bytes in `IO_REGIONS` and those that are not `Writable`. -/
structure SparesReadOnly (s t : State) : Prop where
  cfg : t.cfg = s.cfg
  bytes : ∀ a, s.isIo a = true ∨ s.writable a = false → t.byteAt a = s.byteAt a

namespace SparesReadOnly

variable {s t u : State}

theorem trans (h : SparesReadOnly s t) (h' : SparesReadOnly t u) : SparesReadOnly s u := by
  refine ⟨h'.cfg.trans h.cfg, fun a ha => (h'.bytes a ?_).trans (h.bytes a ha)⟩
  rw [State.isIo, State.writable, h.cfg]
  exact ha

/-- What leaves memory alone spares every byte. -/
theorem of_mem (hcfg : t.cfg = s.cfg) (hmem : t.mem = s.mem) : SparesReadOnly s t :=
  ⟨hcfg, fun a _ => congrArg (Memory.read · a.toNat) hmem⟩

theorem reads (h : ReadsTo s t) : SparesReadOnly s t := .of_mem (h.field .cfg) h.mem

theorem pulls {n : Nat} (h : ∃ l k, t = { s with ioLog := l, draws := k, sp := stackUp s.e s.sp n }) :
    SparesReadOnly s t := by
  obtain ⟨l, k, rfl⟩ := h; exact .of_mem rfl rfl

/-- The one operation that writes memory looks at both sets (R63). -/
theorem writeByte (a : Addr) (v : Byte) (s : State) : SparesReadOnly s (writeByte a v s) := by
  unfold Machine.writeByte
  split
  · exact .of_mem rfl rfl
  · split
    · rename_i hio hw
      refine ⟨rfl, fun b hb => Memory.read_write_of_ne v fun he => ?_⟩
      obtain rfl := BitVec.eq_of_toNat_eq he
      exact hb.elim hio (Bool.eq_false_iff.1 · hw)
    · exact .of_mem rfl rfl

theorem writeBytes (l : List Store) (s : State) : SparesReadOnly s (writeBytes l s) := by
  induction l generalizing s with
  | nil => exact .of_mem rfl rfl
  | cons c rest ih => exact (writeByte c.1 c.2 s).trans (ih _)

theorem pushBytes (l : List Byte) (s : State) : SparesReadOnly s (pushBytes l s) := by
  rw [pushBytes_eq]
  exact (writeBytes _ s).trans (.of_mem rfl rfl)

theorem pushAt (w : Width) (v : BitVec w.bits) (s : State) : SparesReadOnly s (pushAt w v s) := by
  rw [pushAt_eq]; exact pushBytes _ s

theorem restoreStatus (v : Byte) (s : State) : SparesReadOnly s (restoreStatus v s) := by
  obtain ⟨x, y, h⟩ := restoreStatus_state v s
  rw [h]; exact .of_mem rfl rfl

/-- The entry sequence pushes, and otherwise only reads (R386). -/
theorem interrupt (kind : InterruptKind) (ret : Word) (s : State) : SparesReadOnly s (interrupt kind ret s) := by
  obtain ⟨target, s2, _, hr, h⟩ := interrupt_cases kind ret s
  obtain ⟨q, hq⟩ := interruptFlags_state (Machine.pushBytes (entryBytes kind ret s) s)
  have hentry : SparesReadOnly s { interruptFlags (Machine.pushBytes (entryBytes kind ret s) s) with pbr := 0#8 } :=
    (pushBytes _ s).trans (.of_mem (by rw [hq]) (by rw [hq]))
  rw [h]
  exact (hentry.trans (reads hr)).trans (.of_mem rfl rfl)

theorem returnFromInterrupt (s : State) : SparesReadOnly s (returnFromInterrupt s) := by
  obtain ⟨v, s1, a, s2, hv, ha, h⟩ := returnFromInterrupt_cases s
  have hs2 := ((pulls (pull8_state hv)).trans (restoreStatus v s1)).trans (pulls (pull16_state ha))
  rcases h with ⟨_, h⟩ | ⟨_, k, s3, hk, h⟩
  · rw [h]; exact hs2.trans (.of_mem rfl rfl)
  · rw [h]; exact (hs2.trans (pulls (pull8_state hk))).trans (.of_mem rfl rfl)

theorem resetSequence (s : State) : SparesReadOnly s (resetSequence s) := by
  obtain ⟨x, y, z, l, k, target, h⟩ := resetSequence_state s
  rw [h]; exact .of_mem rfl rfl

/-- One byte of a block move is one read and one write (R360). -/
theorem moveByte (delta : Int) (k1 k2 : Byte) (s : State) : SparesReadOnly s (moveByte delta k1 k2 s) := by
  obtain ⟨v, s1, _, hr, m, l, hw, h⟩ := moveByte_cases delta k1 k2 s
  have hwrite := writeByte (fullAddr (moveBanks k1 k2 s).2 s.y) v s1
  rw [hw] at hwrite
  rw [h]
  exact ((reads hr).trans hwrite).trans (.of_mem rfl rfl)

end SparesReadOnly

end Sys2Proof.Machine

namespace Sys2Proof.Machine

open Sys2Proof.Claims

/-- If the outcome is a next state, it spares what `SparesReadOnly` names. -/
def Spares (s : State) (r : Result) : Prop := ∀ t, r = .next t → SparesReadOnly s t

section
variable {s : State}

theorem Spares.next {t : State} (h : SparesReadOnly s t) : Spares s (.next t) := by rintro _ ⟨⟩; exact h

theorem Spares.refused (r : Refusal) : Spares s (.refused r) := by rintro _ ⟨⟩

/-- An outcome whose next state has the memory there was. -/
theorem Spares.of_mem {t : State} (hcfg : t.cfg = s.cfg) (hmem : t.mem = s.mem) : Spares s (.next t) :=
  .next (.of_mem hcfg hmem)

/-- What comes after reads or pushes spares what they spare. -/
theorem Spares.after {u : State} {r : Result} (h : SparesReadOnly s u) (hr : Spares u r) : Spares s r :=
  fun t ht => h.trans (hr t ht)

/-- An instruction that may be refused before it does anything. -/
theorem Spares.unless {b : Bool} {f : Refusal} {r : Result} (h : Spares s r) :
    Spares s (if b then .refused f else r) := by
  cases b
  · exact h
  · exact .refused f

/-! The instruction shapes. -/

theorem Spares.withOperand {w : Width} {o : Operand} {k : BitVec w.bits → State → Result}
    (hk : ∀ m s1, Spares s1 (k m s1)) : Spares s (withOperand w o s k) := by
  rcases withOperand_cases w o s k with ⟨r, _, h⟩ | ⟨_, m, s1, _, hr, h⟩
  · rw [h]; exact .refused r
  · rw [h]; exact .after (.reads hr) (hk m s1)

/-- An instruction that reads an operand and leaves memory alone with the value. -/
theorem Spares.reading {w : Width} {o : Operand} {k : BitVec w.bits → State → State}
    (hk : ∀ m s1, (k m s1).cfg = s1.cfg ∧ (k m s1).mem = s1.mem) :
    Spares s (Machine.withOperand w o s fun m s1 => .next (k m s1)) :=
  .withOperand fun m s1 => .of_mem (hk m s1).1 (hk m s1).2

theorem Spares.store (w : Width) (m : AddrMode) (v : BitVec w.bits) : Spares s (store w m v s) := by
  rcases store_cases w m v s with ⟨r, _, h⟩ | ⟨_, l, s1, _, hr, h⟩
  · rw [h]; exact .refused r
  · rw [h]; exact .after ((SparesReadOnly.reads hr).trans (.writeBytes _ s1)) (.of_mem rfl rfl)

/-- A read-modify-write whose function changes P alone. -/
theorem Spares.modify {w : Width} {m : AddrMode} {f : BitVec w.bits → State → BitVec w.bits × State}
    (hf : ∀ v t, ∃ q, (f v t).2 = { t with p := q }) : Spares s (modify w m s f) := by
  rcases modify_cases w m s f hf with ⟨r, _, h⟩ | ⟨_, l, s1, v, s2, _, hr, _, hr', h⟩
  · rw [h]; exact .refused r
  · rw [h]
    obtain ⟨q, hq⟩ := hf v s2
    rw [hq]
    have hp : SparesReadOnly s2 { s2 with p := q } := .of_mem rfl rfl
    exact .after (((SparesReadOnly.reads (hr.trans hr')).trans hp).trans (.writeBytes _ _)) (.of_mem rfl rfl)

theorem Spares.modifyAcc {w : Width} {f : BitVec w.bits → State → BitVec w.bits × State}
    (hf : ∀ v t, ∃ q, (f v t).2 = { t with p := q }) : Spares s (modifyAcc w s f) := by
  obtain ⟨q, hq⟩ := hf (s.acc w) s
  refine .of_mem (t := State.advance (State.setAcc _ w _) 1) ?_ ?_ <;> simp [hq]

/-- The meaning of an instruction by its operand form, as the lemmas of the forms give it. -/
theorem Spares.of_form {i : Instr} {r : Result} {P : Prop} (h : exec i s = r ∧ P) (hr : Spares s r) :
    Spares s (exec i s) := h.1 ▸ hr

/-! The shared updates of X, Y and z (R167, R192) leave the parameters and memory alone. -/

@[simp] theorem setXNZ_cfg {n : Nat} (r : BitVec n) (s : State) : (setXNZ r s).cfg = s.cfg := rfl

@[simp] theorem setXNZ_mem {n : Nat} (r : BitVec n) (s : State) : (setXNZ r s).mem = s.mem := rfl

@[simp] theorem setYNZ_cfg {n : Nat} (r : BitVec n) (s : State) : (setYNZ r s).cfg = s.cfg := rfl

@[simp] theorem setYNZ_mem {n : Nat} (r : BitVec n) (s : State) : (setYNZ r s).mem = s.mem := rfl

@[simp] theorem setTestZ_cfg {n : Nat} (v m : BitVec n) (s : State) : (setTestZ v m s).cfg = s.cfg := rfl

@[simp] theorem setTestZ_mem {n : Nat} (v m : BitVec n) (s : State) : (setTestZ v m s).mem = s.mem := rfl

/-! The meanings that a family of operand forms shares: each goes on from the read with memory left alone. -/

theorem adc_spares (o : Operand) : Spares s (adc o s) := by
  refine .withOperand fun m s1 => ?_
  unfold adcValue
  split
  · split
    · exact .of_mem (by simp) (by simp)
    · exact .refused _
  · exact .of_mem (by simp) (by simp)

theorem sbc_spares (o : Operand) : Spares s (sbc o s) := by
  refine .withOperand fun m s1 => ?_
  unfold sbcValue
  split
  · split
    · exact .of_mem (by simp) (by simp)
    · exact .refused _
  · exact .of_mem (by simp) (by simp)

theorem andA_spares (o : Operand) : Spares s (andA o s) := .reading fun _ _ => by simp

theorem eorA_spares (o : Operand) : Spares s (eorA o s) := .reading fun _ _ => by simp

theorem oraA_spares (o : Operand) : Spares s (oraA o s) := .reading fun _ _ => by simp

theorem loadA_spares (o : Operand) : Spares s (loadA o s) := .reading fun _ _ => by simp

theorem cmpA_spares (o : Operand) : Spares s (cmpA o s) := .reading fun _ _ => by simp

theorem cmpX_spares (o : Operand) : Spares s (cmpX o s) := .reading fun _ _ => by simp

theorem cmpY_spares (o : Operand) : Spares s (cmpY o s) := .reading fun _ _ => by simp

theorem loadX_spares (o : Operand) : Spares s (loadX o s) := .reading fun _ _ => by simp

theorem loadY_spares (o : Operand) : Spares s (loadY o s) := .reading fun _ _ => by simp

theorem bitMem_spares (m : AddrMode) : Spares s (bitMem m s) := .reading fun _ _ => by simp

theorem execBitImm_spares (v : Word) : Spares s (execBitImm v s) := .reading fun _ _ => by simp

/-- Opcodes BE and B6, whatever their index register is (R272). -/
theorem loadXIndexed_spares (byX byY : AddrMode) : Spares s (loadXIndexed byX byY s) := by
  unfold loadXIndexed
  split
  · exact loadX_spares _
  · exact loadX_spares _
  · exact .refused _

/-! The pulls, the pushes and the control transfers. -/

theorem Spares.of_pulls {n : Nat} {u t : State} (h : PullsUp n s u) (hcfg : t.cfg = u.cfg) (hmem : t.mem = u.mem) :
    Spares s (.next t) :=
  .after (.pulls h) (.of_mem hcfg hmem)

theorem Spares.of_reads {u t : State} (h : ReadsTo s u) (hcfg : t.cfg = u.cfg) (hmem : t.mem = u.mem) :
    Spares s (.next t) :=
  .after (.reads h) (.of_mem hcfg hmem)

theorem execPla_spares : Spares s (execPla s) := by
  rcases hp : pullAt s.mw s with ⟨v, s1⟩
  rw [execPla, hp]
  exact .of_pulls (pullAt_state hp) (by simp) (by simp)

theorem execPlx_spares : Spares s (execPlx s) := by
  rcases hp : pullAt s.xw s with ⟨v, s1⟩
  rw [execPlx, hp]
  exact .of_pulls (pullAt_state hp) (by simp) (by simp)

theorem execPly_spares : Spares s (execPly s) := by
  rcases hp : pullAt s.xw s with ⟨v, s1⟩
  rw [execPly, hp]
  exact .of_pulls (pullAt_state hp) (by simp) (by simp)

theorem execPlp_spares : Spares s (execPlp s) :=
  .next (((SparesReadOnly.pulls (pull8_pullsUp s)).trans (.restoreStatus _ _)).trans (.of_mem rfl rfl))

theorem execPlb_spares : Spares s (execPlb s) := by
  refine .unless ?_
  rcases hp : pull8 s with ⟨v, s1⟩
  exact .of_pulls (pull8_state hp) (by simp) (by simp)

theorem execPld_spares : Spares s (execPld s) := by
  refine .unless ?_
  rcases hp : pull16 s with ⟨v, s1⟩
  exact .of_pulls (pull16_state hp) (by simp) (by simp)

theorem execPei_spares (k : Byte) : Spares s (execPei k s) := by
  refine .unless (.unless ?_)
  rcases hr : read16 (dpLocNew k s) s with ⟨v, s1⟩
  exact .after ((SparesReadOnly.reads (read16_readsTo hr)).trans (.pushBytes [high v, low v] s1)) (.of_mem rfl rfl)

theorem execRts_spares : Spares s (execRts s) := by
  rcases hp : pull16 s with ⟨v, s1⟩
  rw [execRts, hp]
  exact .of_pulls (pull16_state hp) rfl rfl

theorem execRtl_spares : Spares s (execRtl s) := by
  refine .unless ?_
  rcases hp : pull16 s with ⟨v, s1⟩
  rcases hk : pull8 s1 with ⟨k, s2⟩
  simp only [hk]
  exact .of_pulls (PullsUp.trans (pull16_state hp) (pull8_state hk)) (by simp) (by simp)

theorem execSep_spares (k : Byte) : Spares s (execSep k s) := by
  refine .after (u := setStatusBits (statusMask k s) s) ?_ (.of_mem rfl rfl)
  unfold setStatusBits
  simp only
  split <;> exact .of_mem rfl rfl

theorem execXce_spares : Spares s (execXce s) := by
  obtain ⟨q, x, y, z, h⟩ := exchangeCarryEmulation_state s
  rw [execXce, h]
  exact .of_mem rfl rfl

theorem branchIf_spares (c : Bool) (k : Byte) : Spares s (branchIf c k s) := by
  cases c <;> exact .of_mem rfl rfl

theorem execJmpAbsInd_spares (a : Word) : Spares s (execJmpAbsInd a s) := by
  refine .unless ?_
  rcases hr : read16 (absIndLoc a s) s with ⟨v, s1⟩
  exact .of_reads (read16_readsTo hr) rfl rfl

theorem execJmpAbsXInd_spares (a : Word) : Spares s (execJmpAbsXInd a s) := by
  rcases hr : read16 (absXIndLoc a s) s with ⟨v, s1⟩
  rw [execJmpAbsXInd, hr]
  exact .of_reads (read16_readsTo hr) rfl rfl

theorem execJmpAbsIndLong_spares (a : Word) : Spares s (execJmpAbsIndLong a s) := by
  rcases hr : read24 (absIndLongLoc a) s with ⟨v, s1⟩
  rw [execJmpAbsIndLong, hr]
  exact .of_reads (read24_readsTo hr) rfl rfl

theorem execJsrAbsXInd_spares (a : Word) : Spares s (execJsrAbsXInd a s) := by
  refine .unless ?_
  rcases hr : read16 (absXIndLoc a s) (push16 (s.pc + 2#16) s) with ⟨v, s1⟩
  exact .after (.pushBytes [high (s.pc + 2#16), low (s.pc + 2#16)] s) (.of_reads (read16_readsTo hr) rfl rfl)

end

/-- No instruction changes a byte in `IO_REGIONS` or one that is not `Writable`: families by the shape of their meaning,
the others by their own. -/
theorem exec_spares (i : Instr) (s : State) : Spares s (exec i s) := by
  cases i
  case adcDpXInd | adcSr | adcDp | adcDpIndLong | adcImm | adcAbs | adcLong | adcDpIndY | adcDpInd | adcSrIndY |
      adcDpX | adcDpIndLongY | adcAbsY | adcAbsX | adcLongX => exact .of_form (adcForm_exec rfl) (adc_spares _)
  case sbcDpXInd | sbcSr | sbcDp | sbcDpIndLong | sbcImm | sbcAbs | sbcLong | sbcDpIndY | sbcDpInd | sbcSrIndY |
      sbcDpX | sbcDpIndLongY | sbcAbsY | sbcAbsX | sbcLongX => exact .of_form (sbcForm_exec rfl) (sbc_spares _)
  case andDpXInd | andSr | andDp | andDpIndLong | andImm | andAbs | andLong | andDpIndY | andDpInd | andSrIndY |
      andDpX | andDpIndLongY | andAbsY | andAbsX | andLongX => exact .of_form (andForm_exec rfl) (andA_spares _)
  case eorDpXInd | eorSr | eorDp | eorDpIndLong | eorImm | eorAbs | eorLong | eorDpIndY | eorDpInd | eorSrIndY |
      eorDpX | eorDpIndLongY | eorAbsY | eorAbsX | eorLongX => exact .of_form (eorForm_exec rfl) (eorA_spares _)
  case oraDpXInd | oraSr | oraDp | oraDpIndLong | oraImm | oraAbs | oraLong | oraDpIndY | oraDpInd | oraSrIndY |
      oraDpX | oraDpIndLongY | oraAbsY | oraAbsX | oraLongX => exact .of_form (oraForm_exec rfl) (oraA_spares _)
  case ldaDpXInd | ldaSr | ldaDp | ldaDpIndLong | ldaImm | ldaAbs | ldaLong | ldaDpIndY | ldaDpInd | ldaSrIndY |
      ldaDpX | ldaDpIndLongY | ldaAbsY | ldaAbsX | ldaLongX => exact .of_form (ldaForm_exec rfl) (loadA_spares _)
  case cmpDpXInd | cmpSr | cmpDp | cmpDpIndLong | cmpImm | cmpAbs | cmpLong | cmpDpIndY | cmpDpInd | cmpSrIndY |
      cmpDpX | cmpDpIndLongY | cmpAbsY | cmpAbsX | cmpLongX => exact .of_form (cmpForm_exec rfl) (cmpA_spares _)
  case cpxImm | cpxDp | cpxAbs => exact .of_form (cpxForm_exec rfl) (cmpX_spares _)
  case cpyImm | cpyDp | cpyAbs => exact .of_form (cpyForm_exec rfl) (cmpY_spares _)
  case bitDp | bitAbs | bitDpX | bitAbsX => exact .of_form (bitForm_exec rfl) (bitMem_spares _)
  case bitImm => exact execBitImm_spares _
  case ldxImm | ldxDp | ldxAbs => exact .of_form (ldxForm_exec rfl) (loadX_spares _)
  case ldyImm | ldyDp | ldyAbs | ldyDpX | ldyAbsX => exact .of_form (ldyForm_exec rfl) (loadY_spares _)
  case ldxDpX | ldxAbsX => exact loadXIndexed_spares _ _
  case staDpXInd | staSr | staDp | staDpIndLong | staAbs | staLong | staDpIndY | staDpInd | staSrIndY | staDpX |
      staDpIndLongY | staAbsY | staAbsX | staLongX => exact .of_form (staForm_exec rfl) (.store _ _ _)
  case stxDp | stxAbs | stxDpY => exact .of_form (stxForm_exec rfl) (.store _ _ _)
  case styDp | styAbs | styDpX => exact .of_form (styForm_exec rfl) (.store _ _ _)
  case stzDp | stzDpX | stzAbs | stzAbsX => exact .of_form (stzForm_exec rfl) (.store _ _ _)
  case aslDp | aslAbs | aslDpX | aslAbsX | lsrDp | lsrAbs | lsrDpX | lsrAbsX | rolDp | rolAbs | rolDpX | rolAbsX |
      rorDp | rorAbs | rorDpX | rorAbsX => exact .of_form (shiftForm_exec rfl) (.modify (shifted_state _))
  case decDp | decAbs | decDpX | decAbsX => exact .of_form (decForm_exec rfl) (.modify decrement_state)
  case incDp | incAbs | incDpX | incAbsX => exact .of_form (incForm_exec rfl) (.modify increment_state)
  case trbDp | trbAbs => exact .of_form (trbForm_exec rfl) (.modify testReset_state)
  case tsbDp | tsbAbs => exact .of_form (tsbForm_exec rfl) (.modify testSet_state)
  case aslA | lsrA | rolA | rorA => exact .of_form (shiftAccForm_exec rfl) (.modifyAcc (shifted_state _))
  case incA => exact .modifyAcc increment_state
  case decA => exact .modifyAcc decrement_state
  case mvn | mvp => exact .next (.moveByte _ _ _ s)
  case brk | cop => exact .next (.interrupt _ _ s)
  case rti => exact .next (.returnFromInterrupt s)
  case pha | phx | phy => exact .after (.pushAt _ _ s) (.of_mem rfl rfl)
  case phb | phk | php => exact .after (.pushBytes [_] s) (.of_mem rfl rfl)
  case phd | pea | per => exact .unless (.after (.pushBytes [_, _] s) (.of_mem rfl rfl))
  case pei => exact execPei_spares _
  case jsrAbs => exact .after (.pushBytes [_, _] s) (.of_mem rfl rfl)
  case jsl => exact .unless (.after (.pushBytes [_, _, _] s) (.of_mem rfl rfl))
  case jsrAbsXInd => exact execJsrAbsXInd_spares _
  case pla => exact execPla_spares
  case plp => exact execPlp_spares
  case plx => exact execPlx_spares
  case ply => exact execPly_spares
  case plb => exact execPlb_spares
  case pld => exact execPld_spares
  case rts => exact execRts_spares
  case rtl => exact execRtl_spares
  case jmpAbsInd => exact execJmpAbsInd_spares _
  case jmpAbsXInd => exact execJmpAbsXInd_spares _
  case jmpAbsIndLong => exact execJmpAbsIndLong_spares _
  case dex | inx | tax | tsx | tyx | dey | iny | tay | txy | txa | tya => exact .of_mem (by simp) (by simp)
  case sep => exact execSep_spares _
  case xce => exact execXce_spares
  case bcc | bcs | beq | bne | bmi | bpl | bvc | bvs => exact branchIf_spares _ _
  all_goals exact .of_mem rfl rfl

/-- Settles O18, by the ways a step ends in a next state: every one of them writes memory through `writeByte` alone. -/
theorem readOnlyBytesKept : Obligations.ReadOnlyBytesKept := by
  intro s t a h
  have hspares : SparesReadOnly s t := by
    rcases step_cases h with ⟨_, rfl⟩ | ⟨_, rfl⟩ | ⟨_, rfl⟩ | ⟨_, rfl⟩ | ⟨_, rfl⟩ | ⟨_, i, _, hx⟩
    · exact .resetSequence s
    · exact SparesReadOnly.trans (t := { s with nmiPending := false }) (.of_mem rfl rfl) (.interrupt .nmi s.pc _)
    · exact .interrupt .irq s.pc s
    · exact .of_mem rfl rfl
    · exact .of_mem rfl rfl
    · exact exec_spares i s t hx
  exact hspares.bytes a

end Sys2Proof.Machine

/-! Decoding against encoding, over whole strings of bytes (R92, R93, R100). -/

namespace Sys2Proof

/-- A string that begins with an opcode byte decodes when the variant has the byte and the string holds all the bytes of
the instruction; what is left is the rest of the string (R97, R100). -/
theorem decode_cons_eq_ok_iff {v : Variant} {w : Widths} {op : Byte} {bytes rest : List Byte} {i : Instr} :
    decode v w (op :: bytes) = .ok (i, rest) ↔
      decodeOp v w op (bytes.getD 0 0#8) (bytes.getD 1 0#8) (bytes.getD 2 0#8) = some i ∧
        opcodeLength w op ≤ bytes.length + 1 ∧ bytes.drop (opcodeLength w op - 1) = rest := by
  rw [decode]
  cases decodeOp v w op (bytes.getD 0 0#8) (bytes.getD 1 0#8) (bytes.getD 2 0#8) with
  | none => simp
  | some j =>
    by_cases hlen : bytes.length + 1 < opcodeLength w op
    · simp [hlen, Nat.not_le.2 hlen]
    · simp [hlen, Nat.not_lt.1 hlen]

/-- A string begins with its first part, whatever follows that part and whatever is looked up past the end. -/
theorem beginsWith_append (bs rest : List Byte) : BeginsWith (fun k => (bs ++ rest).getD k 0#8) bs := by
  intro k hk
  simp [List.getElem?_append_left hk, hk]

/-- Settles O1: the string begins with the encoding, so its opcode byte selects the instruction and its length. -/
theorem decodeAfterEncode : Obligations.DecodeAfterEncode := by
  intro v w i rest hi
  obtain ⟨hlen, hdec⟩ := decodeOp_of_beginsWith hi (beginsWith_append (encode w i) rest)
  obtain ⟨op, operands, henc⟩ := List.exists_cons_of_length_pos (encode_length_pos w i)
  rw [henc] at hlen hdec ⊢
  have hlen : opcodeLength w op = operands.length + 1 := hlen
  exact decode_cons_eq_ok_iff.2 ⟨hdec, by simp [hlen], by simp [hlen]⟩

/-! Operands assembled from bytes are cut into the same bytes again (R92), and a constant assembled at a width fits it. -/

theorem wordBytes_leWord (b1 b2 : Byte) : wordBytes (leWord b1 b2) = [b1, b2] :=
  congrArg₂ (fun x y => [x, y]) (Machine.low_append b2 b1) (Machine.high_append b2 b1)

theorem longBytes_leLong (b1 b2 b3 : Byte) : longBytes (leLong b1 b2 b3) = [b1, b2, b3] := by
  have h1 : (b3 ++ b2 ++ b1).extractLsb' 0 8 = b1 := BitVec.extractLsb'_append_eq_right
  have h2 : (b3 ++ b2 ++ b1).extractLsb' 8 8 = b2 :=
    (BitVec.extractLsb'_append_eq_of_le (Nat.le_refl 8)).trans BitVec.extractLsb'_append_eq_right
  have h3 : (b3 ++ b2 ++ b1).extractLsb' 16 8 = b3 :=
    (BitVec.extractLsb'_append_eq_of_le (by decide)).trans BitVec.extractLsb'_append_eq_left
  exact congrArg₂ List.cons h1 (congrArg₂ List.cons h2 (congrArg (fun b => [b]) h3))

theorem constBytes_leConst (w : Width) (b1 b2 : Byte) : constBytes w (leConst w b1 b2) = [b1, b2].take w.bytes := by
  cases w with
  | w8 => exact congrArg (fun b => [b]) (Machine.low_zeroExtend b1)
  | w16 => exact wordBytes_leWord b1 b2

theorem fits_leConst (w : Width) (b1 b2 : Byte) : w.fits (leConst w b1 b2) = true := by
  cases w with
  | w8 => simp [Width.fits, leConst, Width.bits, Nat.lt_of_le_of_lt (Nat.mod_le _ _) b1.isLt]
  | w16 => exact decide_eq_true (leWord b1 b2).isLt

/-- What the encoder writes after the opcode byte for the operand that a layout assembles (R92, R93). -/
def Layout.operandBytes (w : Widths) (b1 b2 b3 : Byte) : Layout → List Byte
  | .implied _ => []
  | .byte _ => [b1]
  | .word _ => wordBytes (leWord b1 b2)
  | .pair _ => [b1, b2]
  | .long _ => longBytes (leLong b1 b2 b3)
  | .immM _ => constBytes w.m (leConst w.m b1 b2)
  | .immX _ => constBytes w.x (leConst w.x b1 b2)

/-- Whether the `#const` that a layout assembles, if it has one, fits its width (R93). -/
def Layout.operandFits (w : Widths) (b1 b2 : Byte) : Layout → Bool
  | .immM _ => w.m.fits (leConst w.m b1 b2)
  | .immX _ => w.x.fits (leConst w.x b1 b2)
  | .implied _ | .byte _ | .word _ | .pair _ | .long _ => true

theorem Layout.operandBytes_eq_take (w : Widths) (b1 b2 b3 : Byte) (l : Layout) :
    l.operandBytes w b1 b2 b3 = [b1, b2, b3].take (l.length w - 1) := by
  have hconst (x : Width) : constBytes x (leConst x b1 b2) = [b1, b2, b3].take (1 + x.bytes - 1) := by
    rw [constBytes_leConst]; cases x <;> rfl
  cases l with
  | implied | byte | pair => rfl
  | word => exact wordBytes_leWord b1 b2
  | long => exact longBytes_leLong b1 b2 b3
  | immM => exact hconst w.m
  | immX => exact hconst w.x

theorem Layout.operandFits_eq_true (w : Widths) (b1 b2 : Byte) (l : Layout) : l.operandFits w b1 b2 = true := by
  cases l with
  | immM => exact fits_leConst w.m b1 b2
  | immX => exact fits_leConst w.x b1 b2
  | implied | byte | word | pair | long => rfl

/-- The encoder undoes each cell of the opcode map: it writes the opcode byte of the cell and the bytes of the operand
that the cell's layout assembles. One case for each of the 256 cells, as `encode` is written one by one (R90, R110). -/
theorem encode_assemble (op : Byte) (w : Widths) (b1 b2 b3 : Byte) :
    encode w ((opcodeCell op).layout.assemble w b1 b2 b3) =
        op :: (opcodeCell op).layout.operandBytes w b1 b2 b3 ∧
      ((opcodeCell op).layout.assemble w b1 b2 b3).immediateFits w =
        (opcodeCell op).layout.operandFits w b1 b2 := by
  obtain ⟨n, rfl⟩ : ∃ n : Fin 256, op = BitVec.ofFin n := ⟨op.toFin, rfl⟩
  fin_cases n
  all_goals exact ⟨rfl, rfl⟩

theorem Layout.length_bounds (w : Widths) (l : Layout) : 1 ≤ l.length w ∧ l.length w ≤ 4 := by
  have hconst (x : Width) : x.bytes ≤ 2 := by cases x <;> decide
  have hm := hconst w.m
  have hx := hconst w.x
  cases l <;> simp only [Layout.length] <;> omega

/-- At most three bytes cut from a string that holds them are those looked up in it one by one. -/
theorem take_getD_eq_take {bytes : List Byte} {n : Nat} (hlen : n ≤ bytes.length) (hn : n ≤ 3) :
    [bytes.getD 0 0#8, bytes.getD 1 0#8, bytes.getD 2 0#8].take n = bytes.take n := by
  match bytes, n with
  | _, 0 => rfl
  | _ :: _, 1 => rfl
  | _ :: _ :: _, 2 => rfl
  | _ :: _ :: _ :: _, 3 => rfl

/-- The decoder answers the cell of the opcode byte, assembled (R100). -/
theorem eq_assemble_of_decodeOp {v : Variant} {w : Widths} {op b1 b2 b3 : Byte} {i : Instr}
    (h : decodeOp v w op b1 b2 b3 = some i) : (opcodeCell op).layout.assemble w b1 b2 b3 = i := by
  unfold decodeOp at h
  split at h
  · exact Option.some.inj h
  · cases h

/-- What the decoder answers is well formed, and its encoding is the opcode byte and the operand bytes looked at. -/
theorem encode_of_decodeOp {v : Variant} {w : Widths} {op b1 b2 b3 : Byte} {i : Instr}
    (h : decodeOp v w op b1 b2 b3 = some i) :
    i.wellFormed v w = true ∧ encode w i = op :: [b1, b2, b3].take (opcodeLength w op - 1) := by
  obtain ⟨hbytes, hfits⟩ := encode_assemble op w b1 b2 b3
  rw [Layout.operandBytes_eq_take, eq_assemble_of_decodeOp h] at hbytes
  rw [Layout.operandFits_eq_true, eq_assemble_of_decodeOp h] at hfits
  exact ⟨Bool.and_eq_true_iff.2 ⟨decodeOp_offers h, hfits⟩, hbytes⟩

/-- Settles O2: the encoding is the opcode byte and as many operand bytes as the length asks, and the rest is what
follows them. -/
theorem encodeAfterDecode : Obligations.EncodeAfterDecode := by
  intro v w bytes i rest h
  cases bytes with
  | nil => cases h
  | cons op bytes =>
    obtain ⟨hdec, hlen, rfl⟩ := decode_cons_eq_ok_iff.1 h
    obtain ⟨hwf, henc⟩ := encode_of_decodeOp hdec
    have hfour : opcodeLength w op ≤ 4 := (Layout.length_bounds w _).2
    refine ⟨hwf, ?_⟩
    rw [henc, take_getD_eq_take (by omega) (by omega), List.cons_append, List.take_append_drop]

/-! The opcode bytes with a given property, listed in order (R93, R112). -/

/-- An opcode byte is listed exactly when it has the property by which all 256 were sifted. -/
theorem toNat_mem_iff_of_filter {P : Byte → Bool} {l : List Nat}
    (h : (List.range 256).filter (fun n => P (BitVec.ofNat 8 n)) = l) (op : Byte) : op.toNat ∈ l ↔ P op = true := by
  rw [← h, List.mem_filter, List.mem_range, BitVec.ofNat_toNat, BitVec.setWidth_eq]
  exact and_iff_right op.isLt

/-- The opcode bytes that a variant lacks (R97). -/
def lacks (v : Variant) (op : Byte) : Bool := !v.offers (opcodeCell op).since

theorem decodeOp_eq_none_iff {v : Variant} {w : Widths} {op b1 b2 b3 : Byte} :
    decodeOp v w op b1 b2 b3 = none ↔ lacks v op = true := by
  cases h : v.offers (opcodeCell op).since <;> simp [decodeOp, lacks, h]

theorem filter_lacks_v6502 :
    (List.range 256).filter (fun n => lacks .v6502 (BitVec.ofNat 8 n)) = Claims.refusedOn6502 := by decide

theorem filter_lacks_v65C02 :
    (List.range 256).filter (fun n => lacks .v65C02 (BitVec.ofNat 8 n)) = Claims.refusedOn65C02 := by decide

/-- V65816 has every opcode byte (R96). -/
theorem v65816_lacks (op : Byte) : lacks .v65816 op = false := by
  rw [lacks]; cases (opcodeCell op).since <;> rfl

/-- Settles O3: the bytes each variant lacks, sifted from all 256, are the lists of R112. -/
theorem refusedOpcodeBytes : Obligations.RefusedOpcodeBytes := by
  intro w op b1 b2 b3
  simp only [ne_eq, decodeOp_eq_none_iff]
  exact ⟨(toNat_mem_iff_of_filter filter_lacks_v6502 op).symm, (toNat_mem_iff_of_filter filter_lacks_v65C02 op).symm,
    Bool.eq_false_iff.1 (v65816_lacks op)⟩

/-- Whether a layout is that of a `#const` at the data width, an opcode of IMM_M (R93). -/
def Layout.isImmM : Layout → Bool
  | .immM _ => true
  | .implied _ | .byte _ | .word _ | .pair _ | .long _ | .immX _ => false

/-- Whether a layout is that of a `#const` at the index width, an opcode of IMM_X (R93). -/
def Layout.isImmX : Layout → Bool
  | .immX _ => true
  | .implied _ | .byte _ | .word _ | .pair _ | .long _ | .immM _ => false

theorem filter_isImmM : (List.range 256).filter (fun n => (opcodeCell (BitVec.ofNat 8 n)).layout.isImmM) =
    [0x09, 0x29, 0x49, 0x69, 0x89, 0xA9, 0xC9, 0xE9] := by decide

theorem filter_isImmX : (List.range 256).filter (fun n => (opcodeCell (BitVec.ofNat 8 n)).layout.isImmX) =
    [0xA0, 0xA2, 0xC0, 0xE0] := by decide

/-- The length of a layout over its length at 8-bit widths: one more for a `#const` at a width of 16 bits (R93). -/
theorem Layout.length_eq_add (w : Widths) (l : Layout) :
    l.length w = l.length ⟨.w8, .w8⟩ + (if l.isImmM = true ∧ w.m = .w16 then 1 else 0) +
      (if l.isImmX = true ∧ w.x = .w16 then 1 else 0) := by
  have hconst (x : Width) : 1 + x.bytes = 2 + if x = .w16 then 1 else 0 := by cases x <;> rfl
  cases l with
  | immM => simp [Layout.length, isImmM, isImmX, hconst]
  | immX => simp [Layout.length, isImmM, isImmX, hconst]
  | implied | byte | word | pair | long => simp [Layout.length, isImmM, isImmX]

/-- Settles O4, from the lengths of the layouts and the opcode bytes whose layouts are immediate. -/
theorem instructionLengths : Obligations.InstructionLengths := by
  intro w op
  have hm := toNat_mem_iff_of_filter (P := fun op => (opcodeCell op).layout.isImmM) filter_isImmM op
  have hx := toNat_mem_iff_of_filter (P := fun op => (opcodeCell op).layout.isImmX) filter_isImmX op
  simp only [hm, hx]
  exact ⟨Layout.length_eq_add w _, Layout.length_bounds _ _⟩

/-- Settles O5: each string is evaluated by the opcode map. -/
theorem decodedWords : Obligations.DecodedWords := by
  unfold Obligations.DecodedWords
  and_intros
  all_goals rfl

end Sys2Proof

/-! The addresses of the operands, as numbers (R122 to R136, R149). -/

namespace Sys2Proof.Machine

open Sys2Proof.Claims

section
variable (s : State) (off : Byte) (idx : Word) (k : Nat)

theorem zeroExtend_byte_toNat (v : Byte) : (v.zeroExtend 16).toNat = v.toNat :=
  BitVec.toNat_setWidth_of_le (by decide)

/-- The bytes of an indexed operand (R127 to R129, R133, R134, R136). -/
theorem byteAddr_indexedLoc_toNat (u : Variant) (base : Addr) :
    (byteAddr u (indexedLoc u base idx) k).toNat = (base.toNat + idx.toNat + k) % addressSpace u := by
  have hu : addressSpace u ∣ 2 ^ 24 := by cases u <;> decide
  have hidx : (idx.zeroExtend 24).toNat = idx.toNat := BitVec.toNat_setWidth_of_le (by decide)
  rw [indexedLoc, byteAddr_linear_toNat, linear_toNat, BitVec.toNat_add, hidx, Nat.mod_mod_of_dvd _ hu,
    Nat.mod_add_mod]

/-- The bytes of an operand in the data bank (R122). -/
theorem byteAddr_dataBank_toNat (u : Variant) (b : Byte) (o : Word) :
    (byteAddr u ⟨fullAddr b o, .linear⟩ k).toNat = (b.toNat * 65536 + o.toNat + k) % addressSpace u := by
  rw [byteAddr_linear_toNat, fullAddr_toNat]

/-- The bytes of an indexed operand in the data bank (R127, R129, R133, R136). -/
theorem byteAddr_indexedDataBank_toNat (u : Variant) (b : Byte) (o : Word) :
    (byteAddr u (indexedLoc u (fullAddr b o) idx) k).toNat =
      (b.toNat * 65536 + o.toNat + idx.toNat + k) % addressSpace u := by
  rw [byteAddr_indexedLoc_toNat, fullAddr_toNat]

/-- The bytes of a location in bank 0 (R64). -/
theorem byteAddr_bank0_toNat (u : Variant) (o : Word) :
    (byteAddr u ⟨fullAddr 0#8 o, .bank⟩ k).toNat = (o.toNat + k) % 65536 := by
  rw [byteAddr_bank_fullAddr, fullAddr_toNat, BitVec.toNat_add, BitVec.toNat_ofNat, BitVec.toNat_ofNat]
  omega

/-- The condition under which `DPLoc` stays in the page of D, as numbers (R149). -/
theorem dpWrapsInPage_iff :
    s.dpWrapsInPage = true ↔ s.cfg.variant ≠ .v65816 ∨ (s.e = true ∧ s.d.toNat % 256 = 0) := by
  have hlow : low s.d = 0#8 ↔ s.d.toNat % 256 = 0 := by
    rw [← low_toNat, ← BitVec.toNat_inj, BitVec.toNat_zero]
  simp [State.dpWrapsInPage, hlow]

/-- The bytes of a direct page operand: in the page of D, or in bank 0 (R124, R130, R131, R149). -/
theorem byteAddr_dpLoc_toNat (u : Variant) :
    (byteAddr u (dpLoc off idx s) k).toNat =
      if s.cfg.variant ≠ .v65816 ∨ (s.e = true ∧ s.d.toNat % 256 = 0) then
        s.d.toNat / 256 * 256 + (off.toNat + idx.toNat + k) % 256
      else (s.d.toNat + off.toNat + idx.toNat + k) % 65536 := by
  unfold dpLoc
  by_cases h : s.dpWrapsInPage = true
  · rw [if_pos h, if_pos ((dpWrapsInPage_iff s).1 h), byteAddr_page_toNat]
    simp only [fullAddr_toNat, append_toNat, BitVec.toNat_add, high_toNat, low_toNat, BitVec.toNat_ofNat]
    omega
  · rw [if_neg h, if_neg (mt (dpWrapsInPage_iff s).2 h), byteAddr_bank0_toNat]
    simp only [BitVec.toNat_add, zeroExtend_byte_toNat]
    omega

/-- The bytes of a stack relative operand (R135). -/
theorem byteAddr_srLoc_toNat (u : Variant) :
    (byteAddr u (srLoc off s) k).toNat = (s.sp.toNat + off.toNat + k) % 65536 := by
  rw [srLoc, byteAddr_bank0_toNat]
  simp only [BitVec.toNat_add, zeroExtend_byte_toNat]
  omega

end

/-- Settles O21, from the bytes of each kind of location. -/
theorem directAddresses : Obligations.DirectAddresses := by
  intro s base long off k M D m n h
  simp only [List.mem_cons, List.not_mem_nil, or_false, Prod.mk.injEq] at h
  rcases h with ⟨rfl, rfl⟩ | ⟨rfl, rfl⟩ | ⟨rfl, rfl⟩ | ⟨rfl, rfl⟩ | ⟨rfl, rfl⟩ | ⟨rfl, rfl⟩ | ⟨rfl, rfl⟩ |
    ⟨rfl, rfl⟩ | ⟨rfl, rfl⟩ <;> refine ⟨rfl, rfl, ?_⟩
  · exact byteAddr_dataBank_toNat _ _ _ _
  · exact byteAddr_linear_toNat _ _ _
  · exact byteAddr_indexedDataBank_toNat _ _ _ _ _
  · exact byteAddr_indexedDataBank_toNat _ _ _ _ _
  · exact byteAddr_indexedLoc_toNat _ _ _ _
  · exact byteAddr_srLoc_toNat _ _ _ _
  · exact byteAddr_dpLoc_toNat _ _ 0#16 _ _
  · exact byteAddr_dpLoc_toNat _ _ _ _ _
  · exact byteAddr_dpLoc_toNat _ _ _ _ _

/-- Settles O22, from the bytes of a location that a pointer gives. -/
theorem indirectAddresses : Obligations.IndirectAddresses := by
  intro s off k M bank direct long m r n h
  simp only [List.mem_cons, List.not_mem_nil, or_false, Prod.mk.injEq] at h
  rcases h with ⟨rfl, rfl, rfl⟩ | ⟨rfl, rfl, rfl⟩ | ⟨rfl, rfl, rfl⟩ | ⟨rfl, rfl, rfl⟩ | ⟨rfl, rfl, rfl⟩ |
    ⟨rfl, rfl, rfl⟩ <;> refine ⟨rfl, ?_⟩
  · exact byteAddr_dataBank_toNat _ _ _ _
  · exact byteAddr_dataBank_toNat _ _ _ _
  · exact byteAddr_indexedDataBank_toNat _ _ _ _ _
  · exact byteAddr_indexedDataBank_toNat _ _ _ _ _
  · exact byteAddr_linear_toNat _ _ _
  · exact byteAddr_indexedLoc_toNat _ _ _ _

end Sys2Proof.Machine

/-! The refusals of the addressing modes and of the parameters (R141, R145, R149, R272). -/

namespace Sys2Proof.Machine

open Sys2Proof.Claims

section
variable {s : State}

theorem withOperand_of_refusal {w : Width} {o : Operand} {r : Refusal} (h : o.refusal s = some r)
    (k : BitVec w.bits → State → Result) : withOperand w o s k = .refused r := by
  simp only [withOperand, h]

theorem store_of_refusal {m : AddrMode} {r : Refusal} (h : m.refusal s = some r) (w : Width) (v : BitVec w.bits) :
    store w m v s = .refused r := by
  simp only [store, h]

/-- An instruction that reads an operand is refused where the mode of the operand is (R149). -/
theorem readForm_exec_of_refusal {i : Instr} {o : Operand} {r : Refusal} (hi : readForm s.cfg.ldxIndex i = some o)
    (ho : o.refusal s = some r) : exec i s = .refused r := by
  simp only [readForm, Option.orElse_eq_some, Option.map_eq_some_iff] at hi
  rcases hi with h | ⟨_, h | ⟨_, h | ⟨_, h | ⟨_, h | ⟨_, ⟨m, h, rfl⟩ | ⟨_, h | ⟨_, h | ⟨_, h | ⟨_, h | ⟨_, h |
    ⟨_, h⟩⟩⟩⟩⟩⟩⟩⟩⟩⟩⟩
  · exact (adcForm_exec h).1.trans (withOperand_of_refusal ho _)
  · exact (sbcForm_exec h).1.trans (withOperand_of_refusal ho _)
  · exact (andForm_exec h).1.trans (withOperand_of_refusal ho _)
  · exact (eorForm_exec h).1.trans (withOperand_of_refusal ho _)
  · exact (oraForm_exec h).1.trans (withOperand_of_refusal ho _)
  · exact (bitForm_exec h).1.trans (withOperand_of_refusal ho _)
  · exact (cmpForm_exec h).1.trans (withOperand_of_refusal ho _)
  · exact (cpxForm_exec h).1.trans (withOperand_of_refusal ho _)
  · exact (cpyForm_exec h).1.trans (withOperand_of_refusal ho _)
  · exact (ldaForm_exec h).1.trans (withOperand_of_refusal ho _)
  · exact (ldxForm_exec h).1.trans (withOperand_of_refusal ho _)
  · exact (ldyForm_exec h).1.trans (withOperand_of_refusal ho _)

/-- An instruction that reads an operand, or that stores the accumulator, is refused where its mode is (R149). -/
theorem exec_of_refusal {i : Instr} {o : Operand} {r : Refusal}
    (hi : readForm s.cfg.ldxIndex i = some o ∨ (staForm i).map .mem = some o) (ho : o.refusal s = some r) :
    exec i s = .refused r := by
  rcases hi with hi | hi
  · exact readForm_exec_of_refusal hi ho
  · obtain ⟨m, hm, rfl⟩ := Option.map_eq_some_iff.1 hi
    exact (staForm_exec hm).1.trans (store_of_refusal ho _ _)

/-- The pointer of `[dp]` and `[dp],Y` is three bytes, the last of which is past the page end (R149). -/
theorem dpNewCrosses_three_iff (k : Byte) (s : State) :
    dpNewCrosses k 3 s = true ↔ s.cfg.variant = .v65816 ∧ s.e = true ∧ low s.d = 0#8 ∧ 0xFD < k.toNat := by
  have hk : 0xFF < k.toNat + 3 - 1 ↔ 0xFD < k.toNat := by omega
  simp only [dpNewCrosses, Bool.and_eq_true, decide_eq_true_eq, beq_iff_eq, hk, and_assoc]

/-- The pointer of `(dp,X)` is two bytes, the first of which is the last of its page (R149). -/
theorem dpXPointerCrosses_iff (k : Byte) (s : State) :
    dpXPointerCrosses k s = true ↔ s.cfg.variant = .v65816 ∧ s.e = true ∧ low s.d ≠ 0#8 ∧
      (s.d.toNat + k.toNat + s.x.toNat) % 256 = 0xFF := by
  have hlow : low (s.d + k.zeroExtend 16 + s.x) = 0xFF#8 ↔ (s.d.toNat + k.toNat + s.x.toNat) % 256 = 0xFF := by
    rw [← BitVec.toNat_inj, low_toNat]
    simp only [BitVec.toNat_add, zeroExtend_byte_toNat, BitVec.toNat_ofNat]
    omega
  simp only [dpXPointerCrosses, Bool.and_eq_true, decide_eq_true_eq, beq_iff_eq, bne_iff_ne, hlow, and_assoc]

/-- A mode that is refused for one reason only is refused exactly where that reason is met. -/
theorem ite_some_iff {b : Bool} {r : Refusal} : (if b then some r else none) = some r ↔ b = true := by
  cases b <;> simp

/-- A mode that is refused for one reason only is refused for that reason, if at all. -/
theorem ite_some_of_ne_none {b : Bool} {r : Refusal} (h : (if b then some r else none) ≠ none) :
    (if b then some r else none) = some r := by
  cases b
  · exact absurd rfl h
  · rfl

theorem absIndRefused_iff (a : Word) (s : State) :
    absIndRefused a s = true ↔ s.cfg.variant = .v6502 ∧ low a = 0xFF#8 ∧ s.cfg.jmpIndFF = .fault := by
  simp only [absIndRefused, Bool.and_eq_true, decide_eq_true_eq, beq_iff_eq, and_assoc]

/-- LDX dp,X and LDX addr,X, whatever the index register would be, where the parameter refuses them (R272). -/
theorem loadXIndexed_of_refuse (h : s.cfg.ldxIndex = .refuse) (byX byY : AddrMode) :
    loadXIndexed byX byY s = .refused .ldxIndexInDoubt := by
  simp only [loadXIndexed, h]

/-- PEI is refused for its mode exactly where the mode is (R145, R149). -/
theorem execPei_refused_iff (k : Byte) :
    execPei k s = .refused .directPageNewModeCrossesPage ↔ dpNewCrosses k 2 s = true := by
  cases hk : dpNewCrosses k 2 s with
  | true => simp [execPei, hk]
  | false =>
    rw [execPei_eq hk]
    cases pushWraps 2 s <;> simp

end

/-- Settles O23: the modes by what their refusal looks at, the instructions by their form. -/
theorem addressingRefusals : Obligations.AddressingRefusals := by
  intro s
  refine ⟨fun i o off hi => ⟨fun ho => ?_, fun ho => ?_⟩, fun h off base => ?_, fun a => ?_, fun off => ?_⟩
  · have hr : o.refusal s = if dpNewCrosses off 3 s then some .directPageNewModeCrossesPage else none := by
      rcases ho with rfl | rfl <;> rfl
    rw [hr]
    exact ⟨ite_some_iff.trans (dpNewCrosses_three_iff off s),
      fun h => exec_of_refusal hi (hr.trans (ite_some_of_ne_none h))⟩
  · have hr : o.refusal s = if dpXPointerCrosses off s then some .directPagePointerCrossesPage else none := by
      rw [ho]; rfl
    rw [hr]
    exact ⟨ite_some_iff.trans (dpXPointerCrosses_iff off s),
      fun h => exec_of_refusal hi (hr.trans (ite_some_of_ne_none h))⟩
  · exact ⟨loadXIndexed_of_refuse h _ _, loadXIndexed_of_refuse h _ _⟩
  · exact ite_refused_iff.trans (absIndRefused_iff a s)
  · refine (execPei_refused_iff off).trans ((dpNewCrosses_two_iff off s).trans ?_)
    tauto

end Sys2Proof.Machine

/-! The accumulator forms of INC, DEC and the shifts, and the index registers (R137, R166 to R171, R195 to R199). -/

namespace Sys2Proof.Machine

open Sys2Proof.Claims

section
variable {s : State}

/-- What a read-modify-write of the accumulator leaves, whose function changes P alone (R137). -/
theorem modifyAcc_frame {w : Width} {f : BitVec w.bits → State → BitVec w.bits × State}
    (hf : ∀ v t, ∃ q, (f v t).2 = { t with p := q }) :
    ∃ t, modifyAcc w s f = .next t ∧ t.acc w = (f (s.acc w) s).1 ∧ (∀ g : Flag, g.of t = g.of (f (s.acc w) s).2) ∧
      t.pc = s.pc + 1#16 ∧ SameBut (.p :: accFields w) s t ∧ NothingStored s s t := by
  obtain ⟨q, hq⟩ := hf (s.acc w) s
  obtain ⟨hsame, hstored, hpc⟩ := accResult_frame (.refl s) q w (f (s.acc w) s).1 1
  rw [← hq] at hsame hstored hpc
  exact ⟨_, rfl, by simp, setAcc_advance_flag _ _ _ _, hpc, hsame, hstored⟩

/-- Two states with the same memory, I/O record and count of draws. -/
theorem nothingStored_of_mem {t : State} (hmem : t.mem = s.mem) (hlog : t.ioLog = s.ioLog) (hdraws : t.draws = s.draws) :
    NothingStored s s t :=
  ⟨fun a => congrArg (Memory.read · a.toNat) hmem, hlog, hdraws⟩

/-- A value one more at a width (R169). -/
theorem add_one_toNat {w : Width} (v : BitVec w.bits) : (v + 1).toNat = (v.toNat + 1) % 2 ^ w.bits := by
  rw [BitVec.toNat_add, one_toNat]

/-- A value one less at a width: the residue is never negative (R166). -/
theorem sub_one_toNat {w : Width} (v : BitVec w.bits) :
    (v - 1).toNat = (v.toNat + (2 ^ w.bits - 1)) % 2 ^ w.bits := by
  rw [BitVec.toNat_sub, one_toNat, Nat.add_comm]

theorem xAt_toNat (s : State) (w : Width) : (s.xAt w).toNat = s.x.toNat % 2 ^ w.bits := by simp [State.xAt, atWidth]

theorem yAt_toNat (s : State) (w : Width) : (s.yAt w).toNat = s.y.toNat % 2 ^ w.bits := by simp [State.yAt, atWidth]

/-- A value of a width fits an index register (R22). -/
theorem zeroExtend_width_toNat {w : Width} (v : BitVec w.bits) : (v.zeroExtend 16).toNat = v.toNat :=
  BitVec.toNat_setWidth_of_le (by cases w <;> decide)

theorem atWidth_zeroExtend {w : Width} (v : BitVec w.bits) : atWidth w (v.zeroExtend 16) = v := by
  refine (eq_atWidth ?_).symm
  rw [zeroExtend_width_toNat, Nat.mod_eq_of_lt v.isLt]

theorem setXNZ_sameBut {n : Nat} (r : BitVec n) (s : State) : SameBut [.p, .x] s (setXNZ r s) := by
  intro f hf
  cases f <;> simp at hf <;> rfl

theorem setXNZ_flagsNZ {w : Width} (r : BitVec w.bits) (s : State) :
    FlagsNZ ((setXNZ r s).xAt w) [.z, .n] s (setXNZ r s) := by
  have hr : (setXNZ r s).xAt w = r := atWidth_zeroExtend r
  rw [hr]
  exact flagsNZ_congr (setNZ_flagsNZ s r) (fun _ => rfl) fun g => by cases g <;> rfl

/-- What is left when X gets a result of the index width, with n and z, and PC moves on (R167, R170). -/
theorem setXNZ_advance_frame {w : Width} (r : BitVec w.bits) (s : State) (n : Nat) :
    ((setXNZ r s).advance n).x.toNat = r.toNat ∧
      FlagsNZ (((setXNZ r s).advance n).xAt w) [.z, .n] s ((setXNZ r s).advance n) ∧
      ((setXNZ r s).advance n).pc = s.pc + BitVec.ofNat 16 n ∧
      SameBut [.p, .x] s ((setXNZ r s).advance n) ∧ NothingStored s s ((setXNZ r s).advance n) := by
  refine ⟨zeroExtend_width_toNat r, ?_, ?_, (setXNZ_sameBut r s).trans (advance_sameBut _ _ n),
    nothingStored_of_mem ?_ ?_ ?_⟩
  · exact flagsNZ_congr (setXNZ_flagsNZ r s) (fun _ => rfl) (advance_flag _ n)
  all_goals simp [setXNZ]

theorem setYNZ_sameBut {n : Nat} (r : BitVec n) (s : State) : SameBut [.p, .y] s (setYNZ r s) := by
  intro f hf
  cases f <;> simp at hf <;> rfl

theorem setYNZ_flagsNZ {w : Width} (r : BitVec w.bits) (s : State) :
    FlagsNZ ((setYNZ r s).yAt w) [.z, .n] s (setYNZ r s) := by
  have hr : (setYNZ r s).yAt w = r := atWidth_zeroExtend r
  rw [hr]
  exact flagsNZ_congr (setNZ_flagsNZ s r) (fun _ => rfl) fun g => by cases g <;> rfl

/-- What is left when Y gets a result of the index width, with n and z, and PC moves on (R168, R171). -/
theorem setYNZ_advance_frame {w : Width} (r : BitVec w.bits) (s : State) (n : Nat) :
    ((setYNZ r s).advance n).y.toNat = r.toNat ∧
      FlagsNZ (((setYNZ r s).advance n).yAt w) [.z, .n] s ((setYNZ r s).advance n) ∧
      ((setYNZ r s).advance n).pc = s.pc + BitVec.ofNat 16 n ∧
      SameBut [.p, .y] s ((setYNZ r s).advance n) ∧ NothingStored s s ((setYNZ r s).advance n) := by
  refine ⟨zeroExtend_width_toNat r, ?_, ?_, (setYNZ_sameBut r s).trans (advance_sameBut _ _ n),
    nothingStored_of_mem ?_ ?_ ?_⟩
  · exact flagsNZ_congr (setYNZ_flagsNZ r s) (fun _ => rfl) (advance_flag _ n)
  all_goals simp [setYNZ]

/-- INC A and DEC A, by what the result is (R166, R169). -/
theorem incDecAcc_exec {i : Instr} {d : Nat} (h : (i, d) ∈ [(Instr.incA, 1), (.decA, 2 ^ s.mw.bits - 1)]) :
    ∃ g : BitVec s.mw.bits → BitVec s.mw.bits, (∀ v, (g v).toNat = (v.toNat + d) % 2 ^ s.mw.bits) ∧
      exec i s = modifyAcc s.mw s (fun v t => (g v, t.setNZ (g v))) ∧ (encode s.widths i).length = 1 := by
  simp only [List.mem_cons, List.not_mem_nil, or_false, Prod.mk.injEq] at h
  rcases h with ⟨rfl, rfl⟩ | ⟨rfl, rfl⟩
  · exact ⟨(· + 1), add_one_toNat, rfl, rfl⟩
  · exact ⟨(· - 1), sub_one_toNat, rfl, rfl⟩

/-- INX and DEX, by what the result is (R167, R170). -/
theorem inxDex_exec {i : Instr} {d : Nat} (h : (i, d) ∈ [(Instr.inx, 1), (.dex, 2 ^ s.xw.bits - 1)]) :
    ∃ r : BitVec s.xw.bits, r.toNat = (s.x.toNat + d) % 2 ^ s.xw.bits ∧
      exec i s = .next ((setXNZ r s).advance 1) ∧ (encode s.widths i).length = 1 := by
  simp only [List.mem_cons, List.not_mem_nil, or_false, Prod.mk.injEq] at h
  rcases h with ⟨rfl, rfl⟩ | ⟨rfl, rfl⟩
  · exact ⟨s.xAt s.xw + 1, by rw [add_one_toNat, xAt_toNat, Nat.mod_add_mod], rfl, rfl⟩
  · exact ⟨s.xAt s.xw - 1, by rw [sub_one_toNat, xAt_toNat, Nat.mod_add_mod], rfl, rfl⟩

/-- INY and DEY, by what the result is (R168, R171). -/
theorem inyDey_exec {i : Instr} {d : Nat} (h : (i, d) ∈ [(Instr.iny, 1), (.dey, 2 ^ s.xw.bits - 1)]) :
    ∃ r : BitVec s.xw.bits, r.toNat = (s.y.toNat + d) % 2 ^ s.xw.bits ∧
      exec i s = .next ((setYNZ r s).advance 1) ∧ (encode s.widths i).length = 1 := by
  simp only [List.mem_cons, List.not_mem_nil, or_false, Prod.mk.injEq] at h
  rcases h with ⟨rfl, rfl⟩ | ⟨rfl, rfl⟩
  · exact ⟨s.yAt s.xw + 1, by rw [add_one_toNat, yAt_toNat, Nat.mod_add_mod], rfl, rfl⟩
  · exact ⟨s.yAt s.xw - 1, by rw [sub_one_toNat, yAt_toNat, Nat.mod_add_mod], rfl, rfl⟩

end

/-- Settles O30, from the results of the six instructions and what each register's write leaves. -/
theorem incDecRegisters : Obligations.IncDecRegisters := by
  intro s
  refine ⟨fun i d h => ?_, fun i d h => ?_, fun i d h => ?_⟩
  · obtain ⟨g, hg, hexec, hlen⟩ := incDecAcc_exec h
    obtain ⟨t, ht, hacc, hflags, hpc, hsame, hstored⟩ :=
      modifyAcc_frame (s := s) (f := fun v t => (g v, t.setNZ (g v))) fun _ _ => ⟨_, rfl⟩
    refine ⟨t, hexec.trans ht, ?_, ?_, hpc.trans (pcNext_eq hlen).symm, hsame, hstored⟩
    · rw [hacc]; exact hg _
    · rw [hacc]; exact flagsNZ_congr (setNZ_flagsNZ s _) (fun _ => rfl) hflags
  · obtain ⟨r, hr, hexec, hlen⟩ := inxDex_exec h
    rw [hexec, pcNext_eq hlen, ← hr]
    exact ⟨_, rfl, setXNZ_advance_frame r s 1⟩
  · obtain ⟨r, hr, hexec, hlen⟩ := inyDey_exec h
    rw [hexec, pcNext_eq hlen, ← hr]
    exact ⟨_, rfl, setYNZ_advance_frame r s 1⟩

section
variable {n : Nat}

/-- A left shift makes room for one bit (R196, R198). -/
theorem shiftLeft_one_toNat (v : BitVec (n + 1)) : (v <<< 1).toNat = 2 * (v.toNat % 2 ^ n) := by
  rw [BitVec.toNat_shiftLeft, Nat.shiftLeft_eq, pow_one, Nat.mul_comm, pow_succ', Nat.mul_mod_mul_left]

/-- ROL puts c into the room a left shift makes (R198). -/
theorem shiftRol_toNat (v : BitVec (n + 1)) (c : Bool) :
    (shiftRol v c).1.toNat = v.toNat * 2 % 2 ^ (n + 1) + c.toNat := by
  have hc : (BitVec.ofNat (n + 1) c.toNat).toNat = c.toNat :=
    Nat.mod_eq_of_lt (Nat.lt_of_lt_of_le (Bool.toNat_lt c) (Nat.le_self_pow (Nat.succ_ne_zero n) 2))
  have hor : 2 * (v.toNat % 2 ^ n) + c.toNat = 2 * (v.toNat % 2 ^ n) ||| c.toNat :=
    Nat.two_pow_add_eq_or_of_lt (i := 1) (Bool.toNat_lt c) _
  rw [shiftRol, BitVec.toNat_or, hc, shiftLeft_one_toNat, ← hor, Nat.mul_comm v.toNat, pow_succ',
    Nat.mul_mod_mul_left]

/-- ROR puts c above the half of the value (R199). -/
theorem shiftRor_toNat (v : BitVec (n + 1)) (c : Bool) :
    (shiftRor v c).1.toNat = v.toNat / 2 + c.toNat * 2 ^ n := by
  have hv : v.toNat / 2 < 2 ^ n := by have := v.isLt; omega
  have hc : (BitVec.ofNat (n + 1) c.toNat <<< n).toNat = 2 ^ n * c.toNat := by
    have hn : 2 ^ n % 2 ^ (n + 1) = 2 ^ n := Nat.mod_eq_of_lt (Nat.pow_lt_pow_succ (by decide))
    cases c <;> simp [Nat.shiftLeft_eq, hn]
  rw [shiftRor, BitVec.toNat_or, BitVec.toNat_ushiftRight, Nat.add_sub_cancel, hc, Nat.lor_comm,
    Nat.shiftRight_eq_div_pow, pow_one, ← Nat.two_pow_add_eq_or_of_lt hv, Nat.add_comm, Nat.mul_comm]

/-- The result of a shift or rotate as a number (R196 to R199). -/
theorem ShiftOp.apply_toNat (op : ShiftOp) (v : BitVec (n + 1)) (c : Bool) :
    (op.apply v c).1.toNat = op.result (n + 1) v.toNat c.toNat := by
  cases op with
  | asl => simp [ShiftOp.apply, ShiftOp.result, shiftAsl, Nat.shiftLeft_eq]
  | lsr => simp [ShiftOp.apply, ShiftOp.result, shiftLsr, Nat.shiftRight_eq_div_pow]
  | rol => exact shiftRol_toNat v c
  | ror => exact shiftRor_toNat v c

/-- The bit a shift or rotate moves out (R195). -/
theorem ShiftOp.apply_out (op : ShiftOp) (v : BitVec (n + 1)) (c : Bool) :
    (op.apply v c).2 = op.out (n + 1) v.toNat := by
  cases op with
  | asl | rol => exact BitVec.msb_eq_decide v
  | lsr | ror => exact Nat.testBit_zero v.toNat

end

/-- `shifted` gives the result of its function, and c, n and z as R195 says. -/
theorem shifted_flags {n : Nat} (f : BitVec n → Bool → BitVec n × Bool) (v : BitVec n) (s : State) :
    (shifted f v s).2.flagC = (f v s.flagC).2 ∧ FlagsNZ (shifted f v s).1 [.c, .z, .n] s (shifted f v s).2 := by
  obtain ⟨hn, hz, _⟩ := setNZ_flagsNZ s (f v s.flagC).1
  refine ⟨State.setFlagC_flagC _ _, (State.setFlagC_flagN _ _).trans hn, (State.setFlagC_flagZ _ _).trans hz, ?_⟩
  intro g hg
  cases g <;> simp at hg <;> simp [Flag.of, shifted]

/-- The result and the bit moved out of a shift at a width (R195). -/
theorem shifted_apply (op : ShiftOp) (w : Width) (v : BitVec w.bits) (s : State) :
    (shifted op.apply v s).1.toNat = op.result w.bits v.toNat s.flagC.toNat ∧
      (op.apply v s.flagC).2 = op.out w.bits v.toNat := by
  cases w
  · exact ⟨ShiftOp.apply_toNat (n := 7) op v _, ShiftOp.apply_out (n := 7) op v _⟩
  · exact ⟨ShiftOp.apply_toNat (n := 15) op v _, ShiftOp.apply_out (n := 15) op v _⟩

/-- Settles O34, from what a read-modify-write of the accumulator leaves and the results of the shifts. -/
theorem shiftsOfTheAccumulator : Obligations.ShiftsOfTheAccumulator := by
  intro i op s hi w
  obtain ⟨hexec, hlen⟩ := shiftAccForm_exec (s := s) hi
  obtain ⟨t, ht, hacc, hflags, hpc, hsame, hstored⟩ :=
    modifyAcc_frame (s := s) (w := w) (shifted_state op.apply)
  obtain ⟨hresult, hout⟩ := shifted_apply op w (s.acc w) s
  obtain ⟨hc, hnz⟩ := shifted_flags op.apply (s.acc w) s
  rw [← hacc] at hresult hnz
  exact ⟨t, hexec.trans ht, hresult, ((hflags .c).trans hc).trans hout, flagsNZ_congr hnz (fun _ => rfl) hflags,
    hpc.trans (pcNext_eq hlen).symm, hsame, hstored⟩

end Sys2Proof.Machine

/-! The jumps (R141 to R143, R243 to R247). -/

namespace Sys2Proof.Machine

open Sys2Proof.Claims

section
variable {s : State}

/-- A jump to what reads have found changes PC, and what the reads change. -/
theorem ReadsTo.jump {r : State} (h : ReadsTo s r) (target : Word) :
    SameBut [] s (r.jump target) ∧ MemSame s (r.jump target) :=
  ⟨(h.sameBut _).trans (jump_sameBut _ _ _), h.byteAt⟩

/-- A long jump to what reads have found changes PBR too. -/
theorem ReadsTo.jumpLong {r : State} (h : ReadsTo s r) (bank : Byte) (target : Word) :
    SameBut [.pbr] s (r.jumpLong bank target) ∧ MemSame s (r.jumpLong bank target) :=
  ⟨(h.sameBut _).trans (sameBut_jumpLong _ _ _), h.byteAt⟩

/-- JMP (addr) where it is not refused (R244). -/
theorem execJmpAbsInd_eq {a : Word} (h : absIndRefused a s = false) :
    execJmpAbsInd a s = .next ((read16 (absIndLoc a s) s).2.jump (read16 (absIndLoc a s) s).1) := by
  simp only [execJmpAbsInd, h]
  rfl

theorem execJmpAbsXInd_eq (a : Word) (s : State) :
    execJmpAbsXInd a s = .next ((read16 (absXIndLoc a s) s).2.jump (read16 (absXIndLoc a s) s).1) := rfl

theorem execJmpAbsIndLong_eq (a : Word) (s : State) :
    execJmpAbsIndLong a s = .next ((read24 (absIndLongLoc a) s).2.jumpLong (bankOf (read24 (absIndLongLoc a) s).1)
      (offsetOf (read24 (absIndLongLoc a) s).1)) := rfl

theorem low_eq_ff_iff (a : Word) : low a = 0xFF#8 ↔ a.toNat % 256 = 0xFF := by
  rw [← BitVec.toNat_inj, low_toNat]
  rfl

/-- JMP (addr) is not refused where the parameter has the pointer wrap in its page, or no pointer would cross one (R141). -/
theorem absIndRefused_eq_false {a : Word}
    (h : s.cfg.variant = .v6502 → a.toNat % 256 = 0xFF → s.cfg.jmpIndFF = .pageWrap) : absIndRefused a s = false := by
  refine Bool.eq_false_iff.2 fun hr => ?_
  obtain ⟨hv, ha, hf⟩ := (absIndRefused_iff a s).1 hr
  exact nomatch hf.symm.trans (h hv ((low_eq_ff_iff a).1 ha))

/-- Where the second byte of the pointer of JMP (addr) lies: on V6502 it wraps in the page, else in bank 0 (R141). -/
def absIndHigh (a : Word) (s : State) : Addr :=
  fullAddr 0#8 (if s.cfg.variant = .v6502 ∧ a.toNat % 256 = 0xFF then high a ++ 0x00#8 else a + 1#16)

/-- The two bytes of the pointer of JMP (addr) (R141). -/
theorem byteAddr_absIndLoc (a : Word) (s : State) :
    byteAddr s.cfg.variant (absIndLoc a s) 0 = fullAddr 0#8 a ∧
      byteAddr s.cfg.variant (absIndLoc a s) 1 = absIndHigh a s := by
  unfold absIndLoc absIndHigh
  simp only [low_eq_ff_iff]
  split
  case isTrue h =>
    have ha : low a = 0xFF#8 := (low_eq_ff_iff a).2 h.2
    exact ⟨by simp [byteAddr, append_high_low], by simp [byteAddr, ha]⟩
  case isFalse => exact ⟨by simp [byteAddr], by simp [byteAddr]⟩

/-- The target of JMP (addr), outside `IO_REGIONS` (R141, R244). -/
theorem read16_absIndLoc_plain {a : Word} (h0 : s.isIo (fullAddr 0#8 a) = false)
    (h1 : s.isIo (absIndHigh a s) = false) :
    read16 (absIndLoc a s) s = (s.byteAt (absIndHigh a s) ++ s.byteAt (fullAddr 0#8 a), s) := by
  obtain ⟨hb0, hb1⟩ := byteAddr_absIndLoc a s
  rw [read16_plain (by rwa [hb0]) (by rwa [hb1]), hb0, hb1]

/-- Three bytes read from a `BANK` location outside `IO_REGIONS` (R62, R64). -/
theorem read24_bank_plain {b : Byte} {o : Word} (h0 : s.isIo (fullAddr b o) = false)
    (h1 : s.isIo (fullAddr b (o + 1#16)) = false) (h2 : s.isIo (fullAddr b (o + 2#16)) = false) :
    read24 ⟨fullAddr b o, .bank⟩ s = (fullAddr (s.byteAt (fullAddr b (o + 2#16)))
      (s.byteAt (fullAddr b (o + 1#16)) ++ s.byteAt (fullAddr b o)), s) := by
  have hb2 : byteAddr s.cfg.variant ⟨fullAddr b o, .bank⟩ 2 = fullAddr b (o + 2#16) := byteAddr_bank_fullAddr _ _ _ _
  simp only [read24, read16_bank_plain h0 h1, hb2, readByte_plain h2]
  rfl

end

/-- Settles O40, from the reads of each jump's pointer. -/
theorem jumps : Obligations.Jumps := by
  intro s a
  refine ⟨rfl, fun k => ⟨_, rfl, rfl, bankOf_offsetOf_toNat k⟩, fun hrefuse => ?_, ?_, ?_⟩
  · obtain ⟨hsame, hmem⟩ := (read16_readsTo (s := s) (l := absIndLoc a s) rfl).jump (read16 (absIndLoc a s) s).1
    refine ⟨_, execJmpAbsInd_eq (absIndRefused_eq_false hrefuse), hsame, hmem, fun h0 h1 => ?_⟩
    rw [read16_absIndLoc_plain h0 h1]
    rfl
  · obtain ⟨hsame, hmem⟩ := (read16_readsTo (s := s) (l := absXIndLoc a s) rfl).jump (read16 (absXIndLoc a s) s).1
    refine ⟨_, execJmpAbsXInd_eq a s, hsame, hmem, fun h0 h1 => ?_⟩
    rw [absXIndLoc, read16_bank_plain h0 h1]
    rfl
  · obtain ⟨hsame, hmem⟩ := (read24_readsTo (s := s) (l := absIndLongLoc a) rfl).jumpLong
      (bankOf (read24 (absIndLongLoc a) s).1) (offsetOf (read24 (absIndLongLoc a) s).1)
    refine ⟨_, execJmpAbsIndLong_eq a s, hsame, hmem, fun h0 h1 h2 => ?_⟩
    rw [absIndLongLoc, read24_bank_plain h0 h1 h2, bankOf_fullAddr, offsetOf_fullAddr]
    rfl

end Sys2Proof.Machine

/-! Sums and differences as numbers (R161, R163, R172). -/

namespace Sys2Proof.Machine

theorem bits_pos (w : Width) : 0 < w.bits := by cases w <;> decide

/-- The binary sum at a width is the exact sum reduced modulo the width (R161). -/
theorem addBinary_value_toNat {n : Nat} (acc m : BitVec n) (c : Bool) :
    (addBinary acc m c).value.toNat = (acc.toNat + m.toNat + c.toNat) % 2 ^ n :=
  BitVec.toNat_ofNat _ _

section
variable {n : Nat}

theorem toNat_not_cast (m : BitVec n) : ((~~~m).toNat : Int) = (2 ^ n : Nat) - 1 - m.toNat := by
  have hm := m.isLt
  rw [BitVec.toNat_not]
  omega

/-- The complement in two's complement, as an integer. -/
theorem toInt_not_eq (hn : 0 < n) (m : BitVec n) : (~~~m).toInt = -m.toInt - 1 := by
  rw [BitVec.toInt_eq_msb_cond, BitVec.toInt_eq_msb_cond m, BitVec.msb_not, toNat_not_cast]
  cases m.msb <;> simp [hn] <;> ring

/-- v of a binary sum: the signed sum does not fit, whether or not the unsigned sum wraps (R172). -/
theorem addBinary_overflow (hn : 0 < n) (acc m : BitVec n) (c : Bool) :
    (addBinary acc m c).overflow =
      decide (acc.toInt + m.toInt + c.toNat < -2 ^ (n - 1) ∨ 2 ^ (n - 1) ≤ acc.toInt + m.toInt + c.toNat) := by
  have hacc := acc.isLt
  have hm := m.isLt
  have hc := Bool.toNat_le c
  have hr := addBinary_value_toNat acc m c
  have hpow : 2 ^ n = 2 * 2 ^ (n - 1) := (mul_pow_sub_one hn.ne' 2).symm
  have hint : ((2 ^ (n - 1) : Nat) : Int) = 2 ^ (n - 1) := by norm_cast
  have hwrap : (addBinary acc m c).value.toNat = acc.toNat + m.toNat + c.toNat ∨
      (addBinary acc m c).value.toNat + 2 ^ n = acc.toNat + m.toNat + c.toNat := by
    rcases Nat.lt_or_ge (acc.toNat + m.toNat + c.toNat) (2 ^ n) with hlt | hge
    · exact .inl (hr.trans (Nat.mod_eq_of_lt hlt))
    · rw [hr, Nat.mod_eq_sub_mod hge, Nat.mod_eq_of_lt (by omega)]
      omega
  have hoverflow : (addBinary acc m c).overflow =
      ((acc.msb == m.msb) && ((addBinary acc m c).value.msb != acc.msb)) := rfl
  rw [hoverflow, Bool.eq_iff_iff]
  rw [hpow] at hacc hm hwrap
  simp only [BitVec.toInt_eq_msb_cond, BitVec.msb_eq_decide, ← hint, hpow, Bool.and_eq_true, beq_iff_eq, bne_iff_ne,
    ne_eq, decide_eq_decide, decide_eq_true_eq]
  split <;> split <;> omega

/-- The binary difference at a width is the non-negative residue of the exact difference (R163). -/
theorem subBinary_value_toNat (acc m : BitVec n) (c : Bool) :
    ((subBinary acc m c).value.toNat : Int) = (acc.toNat - m.toNat - (1 - c.toNat)) % 2 ^ n := by
  have hpos : ((2 ^ n : Nat) : Int) ≠ 0 := by positivity
  rw [subBinary, BitVec.toNat_ofInt, Int.toNat_of_nonneg (Int.emod_nonneg _ hpos)]
  norm_cast

/-- Subtraction with borrow is addition with carry of the complement (R161, R163): the exact sum is then the exact
difference plus `2 ^ n`. -/
theorem subBinary_eq_addBinary_not (hn : 0 < n) (acc m : BitVec n) (c : Bool) :
    subBinary acc m c = addBinary acc (~~~m) c := by
  have hsum : ((acc.toNat + (~~~m).toNat + c.toNat : Nat) : Int) =
      (acc.toNat - m.toNat - (1 - c.toNat)) + (2 ^ n : Nat) := by
    push_cast [toNat_not_cast]
    ring
  have hvalue : (subBinary acc m c).value = (addBinary acc (~~~m) c).value := by
    refine BitVec.eq_of_toNat_eq (Int.ofNat.inj ?_)
    calc ((subBinary acc m c).value.toNat : Int)
      _ = (acc.toNat - m.toNat - (1 - c.toNat)) % 2 ^ n := subBinary_value_toNat acc m c
      _ = ((acc.toNat + (~~~m).toNat + c.toNat : Nat) : Int) % (2 ^ n : Nat) := by rw [hsum]; simp
      _ = (addBinary acc (~~~m) c).value.toNat := by rw [addBinary_value_toNat, Int.natCast_mod]
  have hcarry : (subBinary acc m c).carry = (addBinary acc (~~~m) c).carry :=
    decide_eq_decide.2 (by omega)
  have hoverflow : (subBinary acc m c).overflow = (addBinary acc (~~~m) c).overflow := by
    have hmsb := congrArg BitVec.msb hvalue
    simp only [subBinary, addBinary] at hmsb ⊢
    rw [hmsb, BitVec.msb_not, decide_eq_true hn]
    cases acc.msb <;> cases m.msb <;> rfl
  exact (Sum.mk.injEq ..).mpr ⟨hvalue, hcarry, hoverflow⟩

/-- v of a binary difference: the signed difference does not fit (R172). -/
theorem subBinary_overflow (hn : 0 < n) (acc m : BitVec n) (c : Bool) :
    (subBinary acc m c).overflow =
      decide (acc.toInt - m.toInt - (1 - c.toNat) < -2 ^ (n - 1) ∨
        2 ^ (n - 1) ≤ acc.toInt - m.toInt - (1 - c.toNat)) := by
  have hsigned : acc.toInt + (~~~m).toInt + c.toNat = acc.toInt - m.toInt - (1 - c.toNat) := by
    rw [toInt_not_eq hn]
    ring
  rw [subBinary_eq_addBinary_not hn, addBinary_overflow hn, hsigned]

end

end Sys2Proof.Machine

/-! BCD: digits put at their places, and what is read back (R165). -/

namespace Sys2Proof.Machine

/-- Digits put at their places to the base `b`. -/
def digitSum (b : Nat) (f : Nat → Nat) (d : Nat) : Nat := ((List.range d).map fun k => f k * b ^ k).sum

section
variable {b : Nat} {f : Nat → Nat}

theorem digitSum_zero (b : Nat) (f : Nat → Nat) : digitSum b f 0 = 0 := rfl

theorem digitSum_succ (b : Nat) (f : Nat → Nat) (d : Nat) :
    digitSum b f (d + 1) = digitSum b f d + f d * b ^ d := by
  simp [digitSum, List.range_succ]

theorem digitSum_congr {g : Nat → Nat} {d : Nat} (h : ∀ k < d, f k = g k) : digitSum b f d = digitSum b g d :=
  congrArg List.sum (List.map_congr_left fun k hk => by rw [h k (List.mem_range.1 hk)])

/-- The digits of a number, put back at their places, make its residue. -/
theorem digitSum_digits (b i d : Nat) : digitSum b (fun k => i / b ^ k % b) d = i % b ^ d := by
  induction d with
  | zero => rw [digitSum_zero, pow_zero, Nat.mod_one]
  | succ d ih => rw [digitSum_succ, ih, Nat.mod_pow_succ, Nat.mul_comm (b ^ d)]

/-- Digits at their places stay below the next place. -/
theorem digitSum_lt (hf : ∀ k, f k < b) (d : Nat) : digitSum b f d < b ^ d := by
  induction d with
  | zero => exact Nat.one_pos
  | succ d ih =>
    calc digitSum b f (d + 1)
      _ = digitSum b f d + f d * b ^ d := digitSum_succ b f d
      _ < b ^ d + f d * b ^ d := Nat.add_lt_add_right ih _
      _ = (f d + 1) * b ^ d := by ring
      _ ≤ b * b ^ d := Nat.mul_le_mul_right _ (hf d)
      _ = b ^ (d + 1) := (pow_succ' b d).symm

/-- A digit put at its place is found there. -/
theorem digitSum_digit (hf : ∀ k, f k < b) {d k : Nat} (hk : k < d) : digitSum b f d / b ^ k % b = f k := by
  have hpos : 0 < b ^ k := Nat.pow_pos (Nat.zero_lt_of_lt (hf 0))
  induction d with
  | zero => exact absurd hk (Nat.not_lt_zero k)
  | succ d ih =>
    rw [digitSum_succ]
    rcases Nat.lt_succ_iff_lt_or_eq.1 hk with hlt | rfl
    · obtain ⟨j, rfl⟩ := Nat.exists_eq_add_of_lt hlt
      have hplace : f (k + j + 1) * b ^ (k + j + 1) = b ^ k * (b * (f (k + j + 1) * b ^ j)) := by ring
      rw [hplace, Nat.add_mul_div_left _ _ hpos, Nat.add_mul_mod_self_left, ih hlt]
    · rw [Nat.add_mul_div_right _ _ hpos, Nat.div_eq_of_lt (digitSum_lt hf k), Nat.zero_add, Nat.mod_eq_of_lt (hf k)]

end

section
variable {n : Nat}

/-- The digits of `intToBcd` fit the width. -/
theorem intToBcd_toNat (n i : Nat) : (intToBcd n i).toNat = digitSum 16 (fun k => i / 10 ^ k % 10) (n / 4) := by
  refine (BitVec.toNat_ofNat _ _).trans (Nat.mod_eq_of_lt ?_)
  calc digitSum 16 (fun k => i / 10 ^ k % 10) (n / 4)
    _ < 16 ^ (n / 4) := digitSum_lt (fun k => by omega) _
    _ = 2 ^ (4 * (n / 4)) := (pow_mul 2 4 _).symm
    _ ≤ 2 ^ n := Nat.pow_le_pow_right (by decide) (Nat.mul_div_le n 4)

/-- The digits of a number written as BCD are its decimal digits. -/
theorem bcdDigit_intToBcd {k : Nat} (i : Nat) (hk : k < n / 4) : bcdDigit (intToBcd n i) k = i / 10 ^ k % 10 := by
  rw [bcdDigit, intToBcd_toNat, digitSum_digit (fun k => by omega) hk]

/-- A number written as BCD is read back as its residue. -/
theorem bcdToInt_intToBcd (n i : Nat) : bcdToInt (intToBcd n i) = i % 10 ^ (n / 4) := by
  rw [← digitSum_digits]
  exact digitSum_congr fun k hk => bcdDigit_intToBcd i hk

theorem bcdValid_iff (v : BitVec n) : bcdValid v = true ↔ ∀ k < n / 4, v.toNat / 16 ^ k % 16 ≤ 9 := by
  simp only [bcdValid, List.all_eq_true, List.mem_range, decide_eq_true_eq]
  exact Iff.rfl

theorem bcdValid_intToBcd (n i : Nat) : bcdValid (intToBcd n i) = true := by
  refine (bcdValid_iff _).2 fun k hk => ?_
  have hdigit : (intToBcd n i).toNat / 16 ^ k % 16 = i / 10 ^ k % 10 := bcdDigit_intToBcd i hk
  omega

/-- One of two values has a digit above 9. -/
def HasBadDigit (v u : BitVec n) : Prop := ∃ k < n / 4, 9 < v.toNat / 16 ^ k % 16 ∨ 9 < u.toNat / 16 ^ k % 16

theorem hasBadDigit_iff (v u : BitVec n) : HasBadDigit v u ↔ (bcdValid v && bcdValid u) ≠ true := by
  rw [ne_eq, Bool.and_eq_true, bcdValid_iff, bcdValid_iff, ← forall₂_and, HasBadDigit]
  push Not
  simp only [imp_iff_not_or, not_le]

/-- An answer that depends on whether two values are valid BCD, by their digits. -/
theorem answer_of_digits {α : Type} {v u : BitVec n} {answer valid invalid : α}
    (h : answer = if bcdValid v && bcdValid u then valid else invalid) :
    (HasBadDigit v u → answer = invalid) ∧ (¬ HasBadDigit v u → answer = valid) := by
  rw [hasBadDigit_iff]
  exact ⟨fun hbad => h.trans (if_neg hbad), fun hgood => h.trans (if_pos (not_not.1 hgood))⟩

/-- The decimal sum is valid BCD for the sum modulo `10 ^ (n / 4)` (R162). -/
theorem addDecimal_bcd (acc m : BitVec n) (c : Bool) :
    bcdValid (addDecimal acc m c).1 = true ∧
      bcdToInt (addDecimal acc m c).1 = (bcdToInt acc + bcdToInt m + c.toNat) % 10 ^ (n / 4) :=
  ⟨bcdValid_intToBcd _ _, (bcdToInt_intToBcd _ _).trans (Nat.mod_mod _ _)⟩

/-- The decimal difference is valid BCD for the non-negative residue of the difference (R164). -/
theorem subDecimal_bcd (acc m : BitVec n) (c : Bool) :
    bcdValid (subDecimal acc m c).1 = true ∧
      (bcdToInt (subDecimal acc m c).1 : Int) =
        ((bcdToInt acc : Int) - bcdToInt m - (1 - c.toNat)) % (10 ^ (n / 4) : Nat) := by
  have hpos : ((10 ^ (n / 4) : Nat) : Int) ≠ 0 := by positivity
  refine ⟨bcdValid_intToBcd _ _, ?_⟩
  rw [subDecimal, bcdToInt_intToBcd, Int.natCast_mod, Int.toNat_of_nonneg (Int.emod_nonneg _ hpos), Int.emod_emod]

end

end Sys2Proof.Machine

/-! ADC and SBC: what is left when the result is taken into the accumulator (R160 to R164). -/

namespace Sys2Proof.Machine

open Sys2Proof.Claims

/-- The end of a binary ADC or SBC: a result and its flags are taken, and PC moves on (R161, R163). -/
def takeBinary (w : Width) (len : Nat) (r : Sum w.bits) (s : State) : State :=
  ((((s.setNZ r.value).setFlagV r.overflow).setFlagC r.carry).setAcc w r.value).advance len

/-- The end of a decimal ADC or SBC: a result, its carry and the flags R162 and R164 leave free are taken, and PC moves
on. -/
def takeDecimal (w : Width) (len : Nat) (r : BitVec w.bits × Bool) (s : State) : State :=
  (((s.setDecimalNVZ r.1).setFlagC r.2).setAcc w r.1).advance len

section
variable {s s1 : State}

/-- The flags of a binary ADC or SBC change P alone. -/
theorem setNZVC_state (s : State) {n : Nat} (r : BitVec n) (v c : Bool) :
    ∃ q, ((s.setNZ r).setFlagV v).setFlagC c = { s with p := q } := by
  simp only [State.setNZ, State.setFlagN, State.setFlagZ, State.setFlagV, State.setFlagC]
  exact ⟨_, rfl⟩

/-- What is left when reads, then the end of a binary ADC or SBC are done. -/
theorem takeBinary_frame (h : ReadsTo s s1) (w : Width) (len : Nat) (r : Sum w.bits) :
    (takeBinary w len r s1).acc w = r.value ∧ (takeBinary w len r s1).flagC = r.carry ∧
      (takeBinary w len r s1).flagV = r.overflow ∧
      FlagsNZ ((takeBinary w len r s1).acc w) [.c, .z, .v, .n] s (takeBinary w len r s1) ∧
      (takeBinary w len r s1).pc = s.pc + BitVec.ofNat 16 len ∧
      SameBut (.p :: accFields w) s (takeBinary w len r s1) ∧ NothingStored s s1 (takeBinary w len r s1) := by
  have hacc : (takeBinary w len r s1).acc w = r.value := by simp [takeBinary]
  have hflag (g : Flag) :
      g.of (takeBinary w len r s1) = g.of (((s1.setNZ r.value).setFlagV r.overflow).setFlagC r.carry) :=
    setAcc_advance_flag _ w r.value len g
  obtain ⟨q, hq⟩ := setNZVC_state s1 r.value r.overflow r.carry
  obtain ⟨hsame, hstored, hpc⟩ := accResult_frame h q w r.value len
  rw [← hq, ← takeBinary] at hsame hstored hpc
  refine ⟨hacc, (hflag .c).trans (State.setFlagC_flagC _ _), (hflag .v).trans ?_, ?_, hpc, hsame, hstored⟩
  · simp [Flag.of]
  · obtain ⟨hn, hz, _⟩ := setNZ_flagsNZ s1 r.value
    rw [hacc]
    refine flagsNZ_congr (s1 := s1) ⟨?_, ?_, fun g hg => ?_⟩ h.flag hflag
    · simpa using hn
    · simpa using hz
    · cases g <;> simp [Flag.of] at hg ⊢

/-- A decimal ADC or SBC draws free flags and changes P (R162, R164). -/
theorem setDecimalNVZ_state (s : State) {n : Nat} (r : BitVec n) :
    ∃ q k, s.setDecimalNVZ r = { s with p := q, draws := k } := by
  simp only [State.setDecimalNVZ, State.setNZ, State.setFlagN, State.setFlagZ, State.setFlagV]
  split <;> exact ⟨_, _, rfl⟩

/-- n and z after a decimal ADC or SBC follow the result on V65C02 and V65816 (R162, R164). -/
theorem setDecimalNVZ_nz (hv : s.cfg.variant ≠ .v6502) {n : Nat} (r : BitVec n) :
    (s.setDecimalNVZ r).flagN = r.getLsbD (n - 1) ∧ (s.setDecimalNVZ r).flagZ = decide (r.toNat = 0) := by
  obtain ⟨hn, hz, _⟩ := setNZ_flagsNZ s r
  unfold State.setDecimalNVZ
  split
  · exact absurd ‹_› hv
  all_goals exact ⟨(State.setFlagV_flagN _ _).trans hn, (State.setFlagV_flagZ _ _).trans hz⟩

/-- What is left when reads, then the end of a decimal ADC or SBC are done. -/
theorem takeDecimal_frame (h : ReadsTo s s1) (w : Width) (len : Nat) (r : BitVec w.bits × Bool) :
    (takeDecimal w len r s1).acc w = r.1 ∧ (takeDecimal w len r s1).flagC = r.2 ∧
      (s.cfg.variant ≠ .v6502 →
        (takeDecimal w len r s1).flagN = ((takeDecimal w len r s1).acc w).getLsbD (w.bits - 1) ∧
        (takeDecimal w len r s1).flagZ = decide (((takeDecimal w len r s1).acc w).toNat = 0)) ∧
      FlagsBut [.c, .z, .v, .n] s (takeDecimal w len r s1) ∧
      (takeDecimal w len r s1).pc = s.pc + BitVec.ofNat 16 len ∧
      SameBut (.p :: accFields w) s (takeDecimal w len r s1) ∧ MemSame s (takeDecimal w len r s1) ∧
      (takeDecimal w len r s1).ioLog = s1.ioLog := by
  have hacc : (takeDecimal w len r s1).acc w = r.1 := by simp [takeDecimal]
  have hflag (g : Flag) : g.of (takeDecimal w len r s1) = g.of ((s1.setDecimalNVZ r.1).setFlagC r.2) :=
    setAcc_advance_flag _ w r.1 len g
  obtain ⟨q, k, hstate⟩ := setDecimalNVZ_state s1 r.1
  have hdraws : ReadsTo s { s1 with draws := k } := h.trans ⟨s1.ioLog, k, rfl⟩
  have htake : takeDecimal w len r s1 =
      (State.setAcc { s1 with draws := k, p := setBit q 0 r.2 } w r.1).advance len := by
    rw [takeDecimal, hstate]
    rfl
  obtain ⟨hsame, ⟨hmem, hlog, _⟩, hpc⟩ := accResult_frame hdraws (setBit q 0 r.2) w r.1 len
  rw [← htake] at hsame hmem hlog hpc
  refine ⟨hacc, (hflag .c).trans (State.setFlagC_flagC _ _), fun hv => ?_, fun g hg => ?_, hpc, hsame, hmem, hlog⟩
  · have hcfg : s1.cfg = s.cfg := h.field .cfg
    obtain ⟨hn, hz⟩ := setDecimalNVZ_nz (hcfg ▸ hv) r.1
    rw [hacc]
    exact ⟨(hflag .n).trans ((State.setFlagC_flagN _ _).trans hn),
      (hflag .z).trans ((State.setFlagC_flagZ _ _).trans hz)⟩
  · refine ((hflag g).trans ?_).trans (h.flag g)
    cases g <;> simp [Flag.of] at hg ⊢

end

/-- ADC from a state that reads have led to: the accumulator, d and c are those before the reads. -/
theorem adcValue_after_reads {s s1 : State} (h : ReadsTo s s1) (w : Width) (len : Nat) (m : BitVec w.bits) :
    adcValue w len m s1 =
      if s.flagD then
        if bcdValid (s.acc w) && bcdValid m then .next (takeDecimal w len (addDecimal (s.acc w) m s.flagC) s1)
        else .refused .adcNotBcd
      else .next (takeBinary w len (addBinary (s.acc w) m s.flagC) s1) := by
  have hd : s1.flagD = s.flagD := h.flag .d
  have hc : s1.flagC = s.flagC := h.flag .c
  rw [← hd, ← hc, ← h.acc w]
  rfl

/-- SBC from a state that reads have led to: the accumulator, d and c are those before the reads. -/
theorem sbcValue_after_reads {s s1 : State} (h : ReadsTo s s1) (w : Width) (len : Nat) (m : BitVec w.bits) :
    sbcValue w len m s1 =
      if s.flagD then
        if bcdValid (s.acc w) && bcdValid m then .next (takeDecimal w len (subDecimal (s.acc w) m s.flagC) s1)
        else .refused .sbcNotBcd
      else .next (takeBinary w len (subBinary (s.acc w) m s.flagC) s1) := by
  have hd : s1.flagD = s.flagD := h.flag .d
  have hc : s1.flagC = s.flagC := h.flag .c
  rw [← hd, ← hc, ← h.acc w]
  rfl

section
variable {i : Instr} {o : Operand} {s : State}

/-- What a form of ADC answers that its mode does not refuse (R160 to R162). -/
theorem adcForm_outcome (hi : adcForm i = some o) (hr : o.refusal s = none) :
    exec i s =
      if s.flagD then
        if bcdValid (s.acc s.mw) && bcdValid (o.read s.mw s).1 then
          .next (takeDecimal s.mw (o.length s.mw) (addDecimal (s.acc s.mw) (o.read s.mw s).1 s.flagC) (o.read s.mw s).2)
        else .refused .adcNotBcd
      else
        .next (takeBinary s.mw (o.length s.mw) (addBinary (s.acc s.mw) (o.read s.mw s).1 s.flagC)
          (o.read s.mw s).2) := by
  obtain ⟨hreads, hvalue⟩ := withOperand_eq hr (adcValue s.mw (o.length s.mw))
  rw [(adcForm_exec hi).1, adc, hvalue, adcValue_after_reads hreads]

/-- What a form of SBC answers that its mode does not refuse (R160, R163, R164). -/
theorem sbcForm_outcome (hi : sbcForm i = some o) (hr : o.refusal s = none) :
    exec i s =
      if s.flagD then
        if bcdValid (s.acc s.mw) && bcdValid (o.read s.mw s).1 then
          .next (takeDecimal s.mw (o.length s.mw) (subDecimal (s.acc s.mw) (o.read s.mw s).1 s.flagC) (o.read s.mw s).2)
        else .refused .sbcNotBcd
      else
        .next (takeBinary s.mw (o.length s.mw) (subBinary (s.acc s.mw) (o.read s.mw s).1 s.flagC)
          (o.read s.mw s).2) := by
  obtain ⟨hreads, hvalue⟩ := withOperand_eq hr (sbcValue s.mw (o.length s.mw))
  rw [(sbcForm_exec hi).1, sbc, hvalue, sbcValue_after_reads hreads]

end

/-- Settles O25, from the sum as a number and what the end of a binary ADC leaves. -/
theorem adcBinary : Obligations.AdcBinary := by
  intro i o s hi hr hd w m sum signed
  have hreads : ReadsTo s (o.read w s).2 := Operand.read_readsTo rfl
  obtain ⟨hacc, hc, hv, hnz, hpc, hsame, hstored⟩ :=
    takeBinary_frame hreads w (o.length w) (addBinary (s.acc w) m s.flagC)
  have hvalue := addBinary_value_toNat (s.acc w) m s.flagC
  rw [← hacc] at hvalue
  have hexec := (adcForm_outcome hi hr).trans (if_neg (Bool.eq_false_iff.1 hd))
  have hover := hv.trans (addBinary_overflow (bits_pos w) _ _ _)
  have hnext := hpc.trans (pcNext_eq (adcForm_exec hi).2).symm
  exact ⟨_, hexec, hvalue, hc, hover, hnz, hnext, hsame, hstored⟩

/-- Settles O26, from the difference as a number and what the end of a binary SBC leaves. -/
theorem sbcBinary : Obligations.SbcBinary := by
  intro i o s hi hr hd w m diff signed
  have hreads : ReadsTo s (o.read w s).2 := Operand.read_readsTo rfl
  obtain ⟨hacc, hc, hv, hnz, hpc, hsame, hstored⟩ :=
    takeBinary_frame hreads w (o.length w) (subBinary (s.acc w) m s.flagC)
  have hvalue := subBinary_value_toNat (s.acc w) m s.flagC
  rw [← hacc] at hvalue
  have hexec := (sbcForm_outcome hi hr).trans (if_neg (Bool.eq_false_iff.1 hd))
  have hover := hv.trans (subBinary_overflow (bits_pos w) _ _ _)
  have hnext := hpc.trans (pcNext_eq (sbcForm_exec hi).2).symm
  exact ⟨_, hexec, hvalue, hc, hover, hnz, hnext, hsame, hstored⟩

/-- Settles O27, from the decimal sum as BCD and what the end of a decimal ADC leaves. -/
theorem adcDecimal : Obligations.AdcDecimal := by
  intro i o s hi hr hd w m bad
  have hreads : ReadsTo s (o.read w s).2 := Operand.read_readsTo rfl
  obtain ⟨hrefused, hnext⟩ := answer_of_digits ((adcForm_outcome hi hr).trans (if_pos hd))
  obtain ⟨hdigits, hsum⟩ := addDecimal_bcd (s.acc w) m s.flagC
  obtain ⟨hacc, hc, hnz, hflags, hpc, hsame, hmem, hlog⟩ :=
    takeDecimal_frame hreads w (o.length w) (addDecimal (s.acc w) m s.flagC)
  rw [← hacc] at hdigits hsum
  exact ⟨hrefused, fun hgood => ⟨_, hnext hgood, (bcdValid_iff _).1 hdigits, hsum, hc, hnz, hflags,
    hpc.trans (pcNext_eq (adcForm_exec hi).2).symm, hsame, hmem, hlog⟩⟩

/-- Settles O28, from the decimal difference as BCD and what the end of a decimal SBC leaves. -/
theorem sbcDecimal : Obligations.SbcDecimal := by
  intro i o s hi hr hd w m bad
  have hreads : ReadsTo s (o.read w s).2 := Operand.read_readsTo rfl
  obtain ⟨hrefused, hnext⟩ := answer_of_digits ((sbcForm_outcome hi hr).trans (if_pos hd))
  obtain ⟨hdigits, hdiff⟩ := subDecimal_bcd (s.acc w) m s.flagC
  obtain ⟨hacc, hc, hnz, hflags, hpc, hsame, hmem, hlog⟩ :=
    takeDecimal_frame hreads w (o.length w) (subDecimal (s.acc w) m s.flagC)
  rw [← hacc] at hdigits hdiff
  exact ⟨hrefused, fun hgood => ⟨_, hnext hgood, (bcdValid_iff _).1 hdigits, hdiff, hc, hnz, hflags,
    hpc.trans (pcNext_eq (sbcForm_exec hi).2).symm, hsame, hmem, hlog⟩⟩

end Sys2Proof.Machine

/-! The logic operations on the accumulator, the tests of its bits, and the shifts of memory (R191 to R201). -/

namespace Sys2Proof.Machine

open Sys2Proof.Claims

section
variable {s s1 : State}

/-- What is left when reads, then the end of AND, EOR or ORA are done (R191, R193, R194). -/
theorem logicResult_frame (h : ReadsTo s s1) (w : Width) (len : Nat) (r : BitVec w.bits) :
    ∃ t, logicResult w len r s1 = .next t ∧ t.acc w = r ∧ FlagsNZ r [.z, .n] s t ∧
      t.pc = s.pc + BitVec.ofNat 16 len ∧ SameBut (.p :: accFields w) s t ∧ NothingStored s s1 t := by
  obtain ⟨hsame, hstored, hpc⟩ := accResult_frame h (s1.setNZ r).p w r len
  exact ⟨_, rfl, by simp, flagsNZ_congr (setNZ_flagsNZ s1 r) h.flag (setAcc_advance_flag _ w r len), hpc, hsame,
    hstored⟩

/-- What is left when reads, then a change of P, then the advance of PC are done. -/
theorem flagResult_frame (h : ReadsTo s s1) {u : State} (hu : ∃ q, u = { s1 with p := q }) (n : Nat) :
    (∀ g : Flag, g.of (u.advance n) = g.of u) ∧ (u.advance n).pc = s.pc + BitVec.ofNat 16 n ∧
      SameBut [.p] s (u.advance n) ∧ NothingStored s s1 (u.advance n) := by
  obtain ⟨q, rfl⟩ := hu
  exact ⟨advance_flag _ n, congrArg (· + _) h.pc,
    ((h.sameBut _).trans (setP_sameBut s1 q)).trans (advance_sameBut _ _ n), h.byteAt, rfl, rfl⟩

/-- AND, EOR and ORA, by what each bit of the result is (R191, R193, R194). -/
theorem logicForms_exec {i : Instr} {o : Operand} {f : Bool → Bool → Bool}
    (h : (andForm i = some o ∧ f = and) ∨ (eorForm i = some o ∧ f = xor) ∨ (oraForm i = some o ∧ f = or)) :
    ∃ g : BitVec s.mw.bits → BitVec s.mw.bits → BitVec s.mw.bits,
      (∀ a m k, (g a m).getLsbD k = f (a.getLsbD k) (m.getLsbD k)) ∧
      exec i s = withOperand s.mw o s
        (fun m s1 => logicResult s.mw (o.length s.mw) (g (s1.acc s.mw) m) s1) ∧
      (encode s.widths i).length = o.length s.mw := by
  rcases h with ⟨hi, rfl⟩ | ⟨hi, rfl⟩ | ⟨hi, rfl⟩
  · exact ⟨(· &&& ·), fun _ _ _ => BitVec.getLsbD_and, andForm_exec hi⟩
  · exact ⟨(· ^^^ ·), fun _ _ _ => BitVec.getLsbD_xor, eorForm_exec hi⟩
  · exact ⟨(· ||| ·), fun _ _ _ => BitVec.getLsbD_or, oraForm_exec hi⟩

end

/-- Settles O31, from the bits of the three results and what is left when a result is taken into the accumulator. -/
theorem logicOperations : Obligations.LogicOperations := by
  intro i o f s hi hr w m
  obtain ⟨g, hbits, hexec, hlen⟩ := logicForms_exec (s := s) hi
  obtain ⟨hreads, hvalue⟩ :=
    withOperand_eq hr (fun m s1 => logicResult w (o.length w) (g (s1.acc w) m) s1)
  obtain ⟨t, ht, hacc, hnz, hpc, hsame, hstored⟩ :=
    logicResult_frame hreads w (o.length w) (g ((o.read w s).2.acc w) m)
  rw [← hacc] at hnz
  rw [hreads.acc] at hacc
  exact ⟨t, (hexec.trans hvalue).trans ht, fun k _ => (congrArg (·.getLsbD k) hacc).trans (hbits _ _ k), hnz,
    hpc.trans (pcNext_eq hlen).symm, hsame, hstored⟩

section
variable {n : Nat}

/-- The and of two values is zero exactly when no bit is set in both (R192). -/
theorem and_toNat_eq_zero_iff (a v : BitVec n) :
    (a &&& v).toNat = 0 ↔ ∀ k < n, (a.getLsbD k && v.getLsbD k) = false := by
  constructor
  · intro h k _
    have hzero : a &&& v = 0#n := BitVec.eq_of_toNat_eq (by simpa using h)
    rw [← BitVec.getLsbD_and, hzero, BitVec.getLsbD_zero]
  · intro h
    have hzero : a &&& v = 0#n := BitVec.eq_of_getLsbD_eq fun k hk => by simpa using h k hk
    rw [hzero, BitVec.toNat_zero]

/-- z of BIT, TRB and TSB, bit by bit (R192, R200, R201). -/
theorem setTestZ_flagZ (a v : BitVec n) (s : State) :
    (setTestZ a v s).flagZ = true ↔ ∀ k < n, (a.getLsbD k && v.getLsbD k) = false := by
  rw [← and_toNat_eq_zero_iff, setTestZ, State.setFlagZ_flagZ, beq_iff_eq]

theorem setTestZ_flagsBut (a v : BitVec n) (s : State) : FlagsBut [.z] s (setTestZ a v s) := by
  intro g hg
  cases g <;> simp at hg <;> simp [Flag.of, setTestZ]

/-- The flags of BIT with a memory operand: z tests, n and v are the two top bits of the operand (R192). -/
def setTestZNV (a v : BitVec n) (s : State) : State :=
  ((setTestZ a v s).setFlagN v.msb).setFlagV (v.getLsbD (n - 2))

theorem bitMem_eq (m : AddrMode) (s : State) :
    bitMem m s = withOperand s.mw (.mem m) s
      fun v s1 => .next ((setTestZNV (s1.acc s.mw) v s1).advance m.length) := rfl

theorem setTestZNV_state (a v : BitVec n) (s : State) : ∃ q, setTestZNV a v s = { s with p := q } := ⟨_, rfl⟩

theorem setTestZNV_flags (a v : BitVec n) (s : State) :
    ((setTestZNV a v s).flagZ = true ↔ ∀ k < n, (a.getLsbD k && v.getLsbD k) = false) ∧
      (setTestZNV a v s).flagN = v.getLsbD (n - 1) ∧ (setTestZNV a v s).flagV = v.getLsbD (n - 2) ∧
      FlagsBut [.z, .v, .n] s (setTestZNV a v s) := by
  refine ⟨?_, ?_, State.setFlagV_flagV _ _, fun g hg => ?_⟩
  · rw [setTestZNV, State.setFlagV_flagZ, State.setFlagN_flagZ, setTestZ_flagZ]
  · simp [setTestZNV, BitVec.msb_eq_getLsbD_last]
  · cases g <;> simp at hg <;> simp [Flag.of, setTestZNV, setTestZ]

end

/-- `FlagsBut` looks at the flags of its two states only. -/
theorem flagsBut_congr {l : List Flag} {s s1 t u : State} (h : FlagsBut l s1 t) (hs : ∀ g : Flag, g.of s1 = g.of s)
    (hu : ∀ g : Flag, g.of u = g.of t) : FlagsBut l s u :=
  fun g hg => ((hu g).trans (h g hg)).trans (hs g)

/-- A bit of the low part of a word (R8). -/
theorem getLsbD_atWidth {w : Width} {k : Nat} (hk : k < w.bits) (v : Word) :
    (atWidth w v).getLsbD k = v.getLsbD k := by
  simp [atWidth, hk]

/-- Settles O32, from the flags of the two kinds of BIT and what a change of P alone leaves. -/
theorem bitTests : Obligations.BitTests := by
  intro s
  constructor
  · intro i m hi v
    obtain ⟨hexec, hlen, hr⟩ := bitForm_exec (s := s) hi
    obtain ⟨hreads, hvalue⟩ := withOperand_eq (o := .mem m) hr
      (fun v s1 => .next ((setTestZNV (s1.acc s.mw) v s1).advance m.length))
    obtain ⟨hz, hn, hv, hkept⟩ := setTestZNV_flags (s.acc s.mw) v ((Operand.mem m).read s.mw s).2
    obtain ⟨hflags, hpc, hsame, hstored⟩ :=
      flagResult_frame hreads (setTestZNV_state (s.acc s.mw) v ((Operand.mem m).read s.mw s).2) m.length
    rw [hreads.acc] at hvalue
    exact ⟨_, (hexec.trans (bitMem_eq m s)).trans hvalue, (Eq.congr_left (hflags .z)).trans hz, (hflags .n).trans hn,
      (hflags .v).trans hv, flagsBut_congr hkept hreads.flag hflags, hpc.trans (pcNext_eq hlen).symm, hsame, hstored⟩
  · intro imm
    obtain ⟨hflags, hpc, hsame, hstored⟩ :=
      flagResult_frame (.refl s) (u := setTestZ (s.acc s.mw) (atWidth s.mw imm) s) ⟨_, rfl⟩ (1 + s.mw.bytes)
    have hlen : (encode s.widths (.bitImm imm)).length = 1 + s.mw.bytes := by
      simp [encode, constBytes_length, State.widths]
      omega
    refine ⟨_, rfl, ?_, flagsBut_congr (setTestZ_flagsBut _ _ s) (fun _ => rfl) hflags,
      hpc.trans (pcNext_eq hlen).symm, hsame, hstored⟩
    refine (Eq.congr_left (hflags .z)).trans ((setTestZ_flagZ _ _ s).trans ?_)
    exact forall₂_congr fun k hk => by rw [getLsbD_atWidth hk]

/-- Settles O33, from what a read-modify-write leaves (`modify_stored`) and the results of the shifts. -/
theorem shiftsOfMemory : Obligations.ShiftsOfMemory := by
  intro i op m s hm hi w l old
  obtain ⟨hexec, hlen, hr, hres⟩ := shiftForm_exec (s := s) hi
  have hreads : ReadsTo s old.2 := readAt_readsTo rfl
  have hcarry : old.2.flagC = s.flagC := hreads.flag .c
  obtain ⟨t, ht, hst, hflags, hpc, hsame⟩ :=
    modify_stored (shifted_state op.apply) hm hr hres (Prod.eta old).symm
  obtain ⟨hresult, hout⟩ := shifted_apply op w old.1 old.2
  obtain ⟨hc, hnz⟩ := shifted_flags op.apply old.1 old.2
  rw [hcarry] at hresult
  exact ⟨t, _, hexec.trans ht, hresult, ((hflags .c).trans hc).trans hout, hst,
    flagsNZ_congr hnz hreads.flag hflags, hpc.trans (pcNext_eq hlen).symm, hsame⟩

/-- TRB and TSB, by what each bit of the value written back is (R200, R201). -/
theorem testForms_exec {i : Instr} {m : AddrMode} {sets : Bool} {s : State}
    (h : (trbForm i = some m ∧ sets = false) ∨ (tsbForm i = some m ∧ sets = true)) :
    ∃ g : BitVec s.mw.bits → BitVec s.mw.bits → BitVec s.mw.bits,
      (∀ a v, ∀ k < s.mw.bits, (g a v).getLsbD k = if a.getLsbD k then sets else v.getLsbD k) ∧
      exec i s = modify s.mw m s (fun v t => (g (t.acc s.mw) v, setTestZ (t.acc s.mw) v t)) ∧
      (encode s.widths i).length = m.length ∧ m.refusal s = none ∧ (m.resolve s).2 = s := by
  rcases h with ⟨hi, rfl⟩ | ⟨hi, rfl⟩
  · refine ⟨fun a v => v &&& ~~~a, fun a v k hk => ?_, trbForm_exec hi⟩
    rw [BitVec.getLsbD_and, BitVec.getLsbD_not]
    cases a.getLsbD k <;> simp [hk]
  · refine ⟨fun a v => v ||| a, fun a v k _ => ?_, tsbForm_exec hi⟩
    rw [BitVec.getLsbD_or]
    cases a.getLsbD k <;> simp

/-- Settles O35, from what a read-modify-write leaves (`modify_stored`) and the bits of the value written back. -/
theorem testAndModifyBits : Obligations.TestAndModifyBits := by
  intro i m sets s hm hi w l old
  obtain ⟨g, hbits, hexec, hlen, hr, hres⟩ := testForms_exec hi
  have hreads : ReadsTo s old.2 := readAt_readsTo rfl
  obtain ⟨t, ht, hst, hflags, hpc, hsame⟩ :=
    modify_stored (f := fun v t => (g (t.acc w) v, setTestZ (t.acc w) v t)) (fun _ _ => ⟨_, rfl⟩) hm hr hres
      (Prod.eta old).symm
  simp only [hreads.acc] at hst hflags
  exact ⟨t, g (s.acc w) old.1, hexec.trans ht, hbits _ _, hst,
    (Eq.congr_left (hflags .z)).trans (setTestZ_flagZ _ _ old.2),
    flagsBut_congr (setTestZ_flagsBut _ _ old.2) hreads.flag hflags, hpc.trans (pcNext_eq hlen).symm, hsame⟩

end Sys2Proof.Machine

/-! The flag instructions, REP and SEP (R220 to R228). -/

namespace Sys2Proof.Machine

open Sys2Proof.Claims

/-- Where a flag lies in P (R28). -/
def Flag.bit : Flag → Nat
  | .c => 0
  | .z => 1
  | .i => 2
  | .d => 3
  | .x => 4
  | .m => 5
  | .v => 6
  | .n => 7

theorem Flag.of_eq_getLsbD (f : Flag) (s : State) : f.of s = s.p.getLsbD f.bit := by cases f <;> rfl

theorem Flag.bit_lt (f : Flag) : f.bit < 8 := by cases f <;> decide

theorem Flag.bit_inj {f g : Flag} (h : f.bit = g.bit) : f = g := by
  cases f <;> cases g <;> simp [Flag.bit] at h ⊢

/-- A write of one flag. -/
def Flag.set (f : Flag) (v : Bool) (s : State) : State := { s with p := setBit s.p f.bit v }

theorem Flag.of_set (f g : Flag) (v : Bool) (s : State) : g.of (f.set v s) = if g = f then v else g.of s := by
  have hbit : g.bit = f.bit ↔ g = f := ⟨Flag.bit_inj, congrArg Flag.bit⟩
  have hset := getLsbD_setBit s.p f.bit g.bit g.bit_lt v
  simp only [hbit] at hset
  rw [Flag.of_eq_getLsbD, Flag.of_eq_getLsbD]
  exact hset

/-- The meaning and the length of an instruction with a `flagForm` (R220 to R226). -/
theorem flagForm_exec {i : Instr} {f : Flag} {v : Bool} {s : State} (h : flagForm i = some (f, v)) :
    exec i s = .next ((f.set v s).advance 1) ∧ (encode s.widths i).length = 1 := by
  unfold flagForm at h
  split at h <;> cases h <;> exact ⟨rfl, rfl⟩

/-- Settles O36, from the write of one flag (`Flag.of_set`) and what a change of P alone leaves. -/
theorem flagInstructions : Obligations.FlagInstructions := by
  intro i f v s hi
  obtain ⟨hexec, hlen⟩ := flagForm_exec (s := s) hi
  obtain ⟨hflags, hpc, hsame, hstored⟩ := flagResult_frame (.refl s) (u := f.set v s) ⟨_, rfl⟩ 1
  refine ⟨_, hexec, ?_, fun g hg => ?_, hpc.trans (pcNext_eq hlen).symm, hsame, hstored⟩
  · rw [hflags, Flag.of_set, if_pos rfl]
  · rw [hflags, Flag.of_set, if_neg fun h => hg (List.mem_singleton.2 h)]

/-- The operand bits REP and SEP act on: with e = 1 all but bits 5 and 4 (R227, R228). -/
theorem getLsbD_statusMask (k : Byte) (s : State) {j : Nat} (hj : j < 8) :
    (statusMask k s).getLsbD j = (k.getLsbD j && !(s.e && (j == 4 || j == 5))) := by
  have hmask : ∀ j < 8, (0xCF#8).getLsbD j = !(j == 4 || j == 5) := by decide
  unfold statusMask
  cases s.e
  case false => simp
  case true => simp [hmask j hj]

theorem low_zeroExtend_toNat (v : Word) : ((low v).zeroExtend 16).toNat = v.toNat % 256 := by
  rw [BitVec.toNat_setWidth_of_le (by decide), low_toNat]

/-- SEP changes P, X and Y alone (R228). -/
theorem setStatusBits_state (k : Byte) (s : State) :
    ∃ x y, setStatusBits k s = { s with p := s.p ||| k, x := x, y := y } := by
  simp only [setStatusBits]
  split <;> exact ⟨_, _, rfl⟩

/-- X and Y after SEP: their high bytes are cleared exactly when x is then 1 (R228). -/
theorem setStatusBits_index_toNat (k : Byte) (s : State) :
    (setStatusBits k s).x.toNat = (if (setStatusBits k s).flagX then s.x.toNat % 256 else s.x.toNat) ∧
      (setStatusBits k s).y.toNat = (if (setStatusBits k s).flagX then s.y.toNat % 256 else s.y.toNat) := by
  simp only [setStatusBits]
  split
  case isTrue hx =>
    rw [State.clearIndexHigh_flagX, if_pos hx, if_pos hx]
    exact ⟨low_zeroExtend_toNat _, low_zeroExtend_toNat _⟩
  case isFalse => exact ⟨rfl, rfl⟩

/-- Settles O37, from the bits of the mask (`getLsbD_statusMask`); the high bytes of X and Y are
`setStatusBits_index_toNat`. -/
theorem repAndSep : Obligations.RepAndSep := by
  intro k s
  constructor
  · obtain ⟨-, hpc, hsame, hstored⟩ :=
      flagResult_frame (.refl s) (u := { s with p := s.p &&& ~~~(statusMask k s) }) ⟨_, rfl⟩ 2
    refine ⟨_, rfl, fun j hj => ?_, hpc, hsame, hstored⟩
    rw [State.advance_p, BitVec.getLsbD_and, BitVec.getLsbD_not, getLsbD_statusMask k s hj, decide_eq_true hj,
      Bool.true_and]
  · obtain ⟨hx, hy⟩ := setStatusBits_index_toNat (statusMask k s) s
    obtain ⟨x, y, hstate⟩ := setStatusBits_state (statusMask k s) s
    refine ⟨(setStatusBits (statusMask k s) s).advance 2, rfl, ?_⟩
    rw [State.advance_flagX]
    refine ⟨fun j hj => ?_, hx, hy, ?_, fun f hf => ?_, ?_⟩
    · rw [State.advance_p, hstate, BitVec.getLsbD_or, getLsbD_statusMask k s hj]
    · rw [State.advance_pc, hstate]
      rfl
    · rw [hstate]
      cases f <;> simp at hf <;> rfl
    · rw [hstate]
      exact nothingStored_of_mem rfl rfl rfl

end Sys2Proof.Machine

/-! The compares (R229 to R231). -/

namespace Sys2Proof.Machine

open Sys2Proof.Claims

section
variable {n : Nat} (s : State) (reg m : BitVec n)

theorem setCompare_state : ∃ q, s.setCompare reg m = { s with p := q } := ⟨_, rfl⟩

/-- z of a compare: the difference is 0 exactly when the two are equal. -/
theorem setCompare_flagZ_eq : (s.setCompare reg m).flagZ = decide (reg = m) := by
  have hzero : (reg - m).toNat = 0 ↔ reg = m := (BitVec.toNat_inj (y := 0#n)).trans sub_eq_zero
  rw [State.setCompare_flagZ, beq_eq_decide, decide_eq_decide, hzero]

/-- n of a compare: the top bit of the difference, as a number. -/
theorem setCompare_flagN_eq :
    (s.setCompare reg m).flagN = decide (2 ^ (n - 1) ≤ (reg.toNat + 2 ^ n - m.toNat) % 2 ^ n) := by
  rw [State.setCompare_flagN, BitVec.msb_eq_decide, BitVec.toNat_sub, Nat.add_comm (2 ^ n - _),
    Nat.add_sub_assoc m.isLt.le]

theorem setCompare_flagsBut : FlagsBut [.c, .z, .n] s (s.setCompare reg m) := by
  intro g hg
  cases g <;> simp at hg <;> simp [Flag.of]

end

section
variable {i : Instr} {o : Operand} {w : Width} {reg : BitVec w.bits} {s : State}

theorem ReadsTo.xAt {t : State} (h : ReadsTo s t) (w : Width) : t.xAt w = s.xAt w :=
  congrArg (atWidth w) (h.field .x)

theorem ReadsTo.yAt {t : State} (h : ReadsTo s t) (w : Width) : t.yAt w = s.yAt w :=
  congrArg (atWidth w) (h.field .y)

/-- What a form of CMP, CPX or CPY answers that its mode does not refuse, by the register it compares, and its
length. -/
theorem compareForms_exec (hr : o.refusal s = none)
    (h : (cmpForm i = some o ∧ w = s.mw ∧ reg = s.acc w) ∨ (cpxForm i = some o ∧ w = s.xw ∧ reg = s.xAt w) ∨
      (cpyForm i = some o ∧ w = s.xw ∧ reg = s.yAt w)) :
    exec i s = .next (((o.read w s).2.setCompare reg (o.read w s).1).advance (o.length w)) ∧
      (encode s.widths i).length = o.length w := by
  have hreads : ReadsTo s (o.read w s).2 := Operand.read_readsTo rfl
  rcases h with ⟨hi, rfl, rfl⟩ | ⟨hi, rfl, rfl⟩ | ⟨hi, rfl, rfl⟩
  · obtain ⟨hexec, hlen⟩ := cmpForm_exec (s := s) hi
    rw [hexec, cmpA, (withOperand_eq hr _).2, hreads.acc]
    exact ⟨rfl, hlen⟩
  · obtain ⟨hexec, hlen⟩ := cpxForm_exec (s := s) hi
    rw [hexec, cmpX, (withOperand_eq hr _).2, hreads.xAt]
    exact ⟨rfl, hlen⟩
  · obtain ⟨hexec, hlen⟩ := cpyForm_exec (s := s) hi
    rw [hexec, cmpY, (withOperand_eq hr _).2, hreads.yAt]
    exact ⟨rfl, hlen⟩

end

/-- Settles O38, from the flags of a compare and what a change of P alone leaves. -/
theorem compares : Obligations.Compares := by
  intro i o w reg s hr hi m
  obtain ⟨hexec, hlen⟩ := compareForms_exec hr hi
  have hreads : ReadsTo s (o.read w s).2 := Operand.read_readsTo rfl
  obtain ⟨hflags, hpc, hsame, hstored⟩ :=
    flagResult_frame hreads (setCompare_state (o.read w s).2 reg m) (o.length w)
  exact ⟨_, hexec, (hflags .c).trans (State.setCompare_flagC _ _ _), (hflags .z).trans (setCompare_flagZ_eq _ _ _),
    (hflags .n).trans (setCompare_flagN_eq _ _ _), flagsBut_congr (setCompare_flagsBut _ _ _) hreads.flag hflags,
    hpc.trans (pcNext_eq hlen).symm, hsame, hstored⟩

end Sys2Proof.Machine

/-! The branches (R139, R140, R232 to R242). -/

namespace Sys2Proof.Machine

open Sys2Proof.Claims

/-- A signed displacement added to a word, as an integer (R139, R140). -/
theorem add_displacement_toNat (v k : Word) : ((v + k).toNat : Int) = (v.toNat + k.toInt) % 65536 := by
  rw [BitVec.toNat_add, Int.natCast_mod, Nat.cast_add, BitVec.toInt_eq_toNat_cond]
  split <;> omega

section
variable {i : Instr} {f : Flag} {v : Bool} {k : Byte} {s : State}

theorem relTarget_toNat (k : Byte) (s : State) :
    ((relTarget k s).toNat : Int) = (s.pc.toNat + 2 + k.toInt) % 65536 := by
  have hk : (signExtend16 k).toInt = k.toInt := BitVec.toInt_signExtend_of_le (by decide)
  rw [relTarget, add_displacement_toNat, hk, BitVec.toNat_add, BitVec.toNat_ofNat]
  omega

theorem relLongTarget_toNat (k : Word) (s : State) :
    ((relLongTarget k s).toNat : Int) = (s.pc.toNat + 3 + k.toInt) % 65536 := by
  rw [relLongTarget, add_displacement_toNat, BitVec.toNat_add, BitVec.toNat_ofNat]
  omega

/-- The meaning of an instruction with a `branchForm` (R233 to R240). -/
theorem branchForm_exec (h : branchForm i = some (f, v, k)) : exec i s = branchIf (f.of s == v) k s := by
  unfold branchForm at h
  split at h <;> cases h <;> simp [Flag.of] <;> rfl

/-- A conditional branch changes PC alone, to its target if the condition holds and past itself otherwise (R232). -/
theorem branchIf_next (cond : Bool) (k : Byte) (s : State) :
    ∃ t, branchIf cond k s = .next t ∧ t = { s with pc := t.pc } ∧
      (t.pc.toNat : Int) = (s.pc.toNat + 2 + if cond then k.toInt else 0) % 65536 := by
  cases cond with
  | true => exact ⟨_, rfl, rfl, relTarget_toNat k s⟩
  | false => exact ⟨_, rfl, rfl, add_displacement_toNat s.pc 2#16⟩

end

/-- Settles O39, from the targets as numbers. -/
theorem branches : Obligations.Branches := by
  intro s
  refine ⟨fun i f v k hi => ?_, fun k => ⟨_, rfl, rfl, relTarget_toNat k s⟩,
    fun k => ⟨_, rfl, rfl, relLongTarget_toNat k s⟩⟩
  obtain ⟨t, hexec, hsame, hpc⟩ := branchIf_next (f.of s == v) k s
  simp only [beq_iff_eq] at hpc
  exact ⟨t, (branchForm_exec hi).trans hexec, hsame, hpc⟩

end Sys2Proof.Machine

/-! Bytes pushed and pulled again (R71, R72), and the returns that undo a call (R248, R250 to R253). -/

namespace Sys2Proof.Machine

open Sys2Proof.Claims

section
variable {s t : State} {l : List Byte} {v : Byte}

/-- A pull undoes the last of some pushes, where I3 of R34 holds before them. -/
theorem stackUp_stackDown {e : Bool} {sp : Word} (h : e = true → high sp = 0x01#8) (n : Nat) :
    stackUp e (stackDown e sp (n + 1)) 1 = stackDown e sp n := by
  rw [← stackDown_add]
  cases e with
  | false => simp [stackUp, stackDown]
  | true =>
    have hpage := stackDown_high (h rfl) n
    simp only [stackUp, stackDown, if_true, low_append, BitVec.sub_add_cancel]
    rw [← hpage, append_high_low]

/-- Where the byte pushed as number `k` goes (R71). -/
theorem mem_pushedAt_of_getElem {e : Bool} {sp : Word} {k : Nat} (hk : k < l.length) :
    (fullAddr 0#8 (stackDown e sp k), l[k]) ∈ pushedAt e sp l := by
  induction l generalizing sp k with
  | nil => simp at hk
  | cons v rest ih =>
    cases k with
    | zero => exact List.mem_cons_self
    | succ k =>
      have hrest := ih (sp := stackDown e sp 1) (Nat.lt_of_succ_lt_succ hk)
      rw [stackDown_add, Nat.add_comm] at hrest
      exact List.mem_cons_of_mem _ hrest

/-- The bytes of `l`, the first pushed first, lie on the stack of `t` above its S and up to the S of `s`, outside
`IO_REGIONS`. -/
structure Stacked (l : List Byte) (s t : State) : Prop where
  page : s.InvI3
  e : t.e = s.e
  sp : t.sp = stackDown s.e s.sp l.length
  noIo : ∀ k < l.length, t.isIo (fullAddr 0#8 (stackDown s.e s.sp k)) = false
  bytes : ∀ k (hk : k < l.length), t.byteAt (fullAddr 0#8 (stackDown s.e s.sp k)) = l[k]

/-- Bytes pushed to plain memory lie on the stack. -/
theorem Pushed.stacked {r : State} (h : Pushed l s r t) (hs : s.Inv) (hp : PlainStack l.length s) : Stacked l s t := by
  obtain ⟨⟨⟨hbytes, _⟩, _⟩, hsp, _, hsame⟩ := h
  have hcfg : t.cfg = s.cfg := hsame .cfg (by decide)
  refine ⟨hs.i3, hsame .e (by decide), hsp, fun k hk => ?_, fun k hk => ?_⟩
  · rw [State.isIo, hcfg]
    exact (hp k hk).1
  · obtain ⟨hio, hw⟩ := hp k hk
    rw [hbytes _ (mem_pushedAt_of_getElem hk)]
    simp [hio, hw]

/-- A pull takes the byte pushed last, and leaves those pushed before it. -/
theorem Stacked.pull8 (h : Stacked (l ++ [v]) s t) :
    pull8 t = (v, { t with sp := stackDown s.e s.sp l.length }) ∧
      Stacked l s { t with sp := stackDown s.e s.sp l.length } := by
  obtain ⟨hpage, he, hsp, hio, hbytes⟩ := h
  rw [List.length_append, List.length_singleton] at hsp hio
  have hup : stackUp t.e t.sp 1 = stackDown s.e s.sp l.length := by rw [he, hsp, stackUp_stackDown hpage]
  have hpull := pull8_plain (s := t) (by rw [hup]; exact hio _ (Nat.lt_succ_self _))
  have hlast := hbytes l.length (by simp)
  rw [List.getElem_concat_length rfl] at hlast
  rw [hup, hlast] at hpull
  refine ⟨hpull, hpage, he, rfl, fun k hk => hio k (Nat.lt_succ_of_lt hk), fun k hk => ?_⟩
  rw [← List.getElem_append_left (bs := [v]) hk]
  exact hbytes k (by simp; omega)

/-- A pull of two bytes takes back a word pushed last, high byte first. -/
theorem Stacked.pull16 {w : Word} (h : Stacked (l ++ [high w, low w]) s t) :
    pull16 t = (w, { t with sp := stackDown s.e s.sp l.length }) ∧
      Stacked l s { t with sp := stackDown s.e s.sp l.length } := by
  rw [List.append_cons] at h
  obtain ⟨hlow, h'⟩ := h.pull8
  obtain ⟨hhigh, h''⟩ := h'.pull8
  refine ⟨?_, h''⟩
  simp only [Machine.pull16, hlow, hhigh, append_high_low]

/-- With S put back, what pushes change of the fields is undone. -/
theorem sameBut_restore_sp {fs : List Field} (h : SameBut (.sp :: fs) s t) : SameBut fs s { t with sp := s.sp } := by
  intro f hf
  have hfield := h f
  cases f
  case sp => rfl
  all_goals exact hfield (by simpa using hf)

/-- With PBR put back, what a long jump changes of the fields is undone. -/
theorem sameBut_restore_pbr {fs : List Field} (h : SameBut (.pbr :: fs) s t) (a : Word) :
    SameBut fs s (t.jumpLong s.pbr a) := by
  intro f hf
  have hfield := h f
  cases f
  case pbr => rfl
  all_goals exact hfield (by simpa using hf)

/-- RTS after the return offset of JSR has been pushed. -/
theorem execRts_of_stacked {w : Word} (h : Stacked [high w, low w] s t) :
    execRts t = .next (State.jump { t with sp := s.sp } (w + 1#16)) := by
  rw [execRts_eq, (Stacked.pull16 (l := []) h).1]
  rfl

/-- RTL after the bank and the return offset of JSL have been pushed. -/
theorem execRtl_of_stacked {b : Byte} {w : Word} (h : Stacked [b, high w, low w] s t) (hw : ¬ WrapsPage1 .rtl t) :
    execRtl t = .next (State.jumpLong { t with sp := s.sp } b (w + 1#16)) := by
  obtain ⟨hword, h'⟩ := Stacked.pull16 (l := [b]) h
  obtain ⟨hbank, _⟩ := Stacked.pull8 (l := []) h'
  rw [execRtl_eq hw]
  simp only [hword, hbank]
  rfl

theorem Stacked.jump (h : Stacked l s t) (a : Word) : Stacked l s (t.jump a) :=
  ⟨h.page, h.e, h.sp, h.noIo, h.bytes⟩

theorem Stacked.jumpLong (h : Stacked l s t) (b : Byte) (a : Word) : Stacked l s (t.jumpLong b a) :=
  ⟨h.page, h.e, h.sp, h.noIo, h.bytes⟩

/-- JSL is not refused where with e = 1 the low byte of S is at least 3 (R74). -/
theorem not_wrapsPage1_jsl {k : Addr} (h : s.e = true → 3 ≤ (low s.sp).toNat) : ¬ WrapsPage1 (.jsl k) s := by
  rw [← pushWraps_iff (n := 3) rfl rfl, pushWraps, Bool.and_eq_true, decide_eq_true_eq]
  rintro ⟨he, hlow⟩
  have := h he
  omega

/-- RTL is not refused after three pushes that did not wrap in page 1 (R74). -/
theorem Stacked.not_wrapsPage1_rtl (h : Stacked l s t) (hl : l.length = 3)
    (hlow : s.e = true → 3 ≤ (low s.sp).toNat) : ¬ WrapsPage1 .rtl t := by
  rw [← pullWraps_iff (n := 3) rfl rfl (by decide), pullWraps, Bool.and_eq_true, decide_eq_true_eq, h.e, h.sp, hl,
    stackDown_low, BitVec.toNat_sub, BitVec.toNat_ofNat]
  rintro ⟨he, hwraps⟩
  have := hlow he
  have := (low s.sp).isLt
  omega

/-- JSR, then RTS: the pull gives back the return offset pushed, and S (R248, R251). -/
theorem rts_after_jsr (hs : s.Inv) (hp : PlainStack 2 s) (a : Word) :
    ∃ u t, exec (.jsrAbs a) s = .next u ∧ exec .rts u = .next t ∧ t.pc = s.pc + 3#16 ∧ SameBut [] s t := by
  have hpush := pushBytes_pushed (l := [high (s.pc + 2#16), low (s.pc + 2#16)]) hs.mem (.refl s) (by simp)
  have hstacked := (hpush.stacked hs hp).jump a
  exact ⟨_, _, rfl, execRts_of_stacked hstacked, BitVec.add_assoc _ _ _,
    (sameBut_restore_sp (hpush.same.trans (jump_sameBut _ _ a))).trans (jump_sameBut _ _ _)⟩

/-- JSL, then RTL: the pulls give back the return offset and the bank pushed, and S (R250, R252). -/
theorem rtl_after_jsl (hs : s.Inv) (hp : PlainStack 3 s) (hlow : s.e = true → 3 ≤ (low s.sp).toNat) (k : Addr) :
    ∃ u t, exec (.jsl k) s = .next u ∧ exec .rtl u = .next t ∧ t.pc = s.pc + 4#16 ∧ SameBut [] s t := by
  have hpush := pushBytes_pushed (l := [s.pbr, high (s.pc + 3#16), low (s.pc + 3#16)]) hs.mem (.refl s) (by simp)
  have hstacked := (hpush.stacked hs hp).jumpLong (bankOf k) (offsetOf k)
  have hcall : SameBut [.sp, .pbr] s _ :=
    (hpush.same.mono (by simp)).trans ((sameBut_jumpLong _ (bankOf k) (offsetOf k)).mono (by simp))
  exact ⟨_, _, execJsl_eq (not_wrapsPage1_jsl hlow),
    execRtl_of_stacked hstacked (hstacked.not_wrapsPage1_rtl rfl hlow), BitVec.add_assoc _ _ _,
    sameBut_restore_pbr (sameBut_restore_sp hcall) _⟩

end

/-- Settles O57: the return pulls what the call pushed (`Stacked`), so that S comes back and PC is the return offset
plus 1. -/
theorem returnUndoesCall : Obligations.ReturnUndoesCall := by
  intro s hs hp
  have hp2 : PlainStack 2 s := fun k hk => hp k (Nat.lt_succ_of_lt hk)
  exact ⟨rts_after_jsr hs hp2, fun k hlow => rtl_after_jsl hs hp hlow k⟩

end Sys2Proof.Machine

/-! The loads and the transfers between registers (R138, R270 to R273, R279 to R291). -/

namespace Sys2Proof.Machine

open Sys2Proof.Claims

section
variable {s s1 t : State} {i : Instr} {v : Word}

theorem atWidth_toNat (w : Width) (v : Word) : (atWidth w v).toNat = v.toNat % 2 ^ w.bits := by simp [atWidth]

/-- The low 16 bits of a word are the word (R8). -/
theorem atWidth_w16 (v : Word) : atWidth .w16 v = v :=
  (eq_atWidth (w := .w16) (Nat.mod_eq_of_lt v.isLt).symm).symm

/-- n and z of the low part of a word, in terms of the word (R8, R10). -/
theorem flagsNZ_atWidth {w : Width} (h : FlagsNZ (atWidth w v) [.z, .n] s t) :
    t.flagN = v.getLsbD (w.bits - 1) ∧ t.flagZ = decide (v.toNat % 2 ^ w.bits = 0) ∧ FlagsBut [.z, .n] s t := by
  obtain ⟨hn, hz, hrest⟩ := h
  rw [getLsbD_atWidth (by cases w <;> decide)] at hn
  rw [atWidth_toNat] at hz
  exact ⟨hn, hz, hrest⟩

/-- n and z follow a value as soon as P is what `setNZ` makes it. -/
theorem flagsNZ_of_p {n : Nat} {r : BitVec n} (hp : t.p = (s.setNZ r).p) : FlagsNZ r [.z, .n] s t :=
  flagsNZ_congr (setNZ_flagsNZ s r) (fun _ => rfl) fun g => by
    rw [Flag.of_eq_getLsbD, Flag.of_eq_getLsbD, hp]

/-- A state with nothing stored since some reads has nothing stored since the state before them. -/
theorem nothingStored_of_readsTo (h : ReadsTo s s1) (ht : NothingStored s1 s1 t) : NothingStored s s1 t := by
  obtain ⟨hmem, hlog, hdraws⟩ := ht
  exact ⟨fun a => (hmem a).trans (h.byteAt a), hlog, hdraws⟩

/-- What is left when reads are done, X gets a value of the index width, with n and z, and PC moves on (R272, R279). -/
theorem setXNZ_advance_of_readsTo (h : ReadsTo s s1) {w : Width} (r : BitVec w.bits) (n : Nat) :
    ((setXNZ r s1).advance n).x.toNat = r.toNat ∧ FlagsNZ r [.z, .n] s ((setXNZ r s1).advance n) ∧
      ((setXNZ r s1).advance n).pc = s.pc + BitVec.ofNat 16 n ∧
      SameBut [.p, .x] s ((setXNZ r s1).advance n) ∧ NothingStored s s1 ((setXNZ r s1).advance n) := by
  obtain ⟨hx, _, hpc, hsame, hstored⟩ := setXNZ_advance_frame r s1 n
  rw [h.pc] at hpc
  exact ⟨hx, flagsNZ_congr (flagsNZ_of_p rfl) h.flag fun _ => rfl, hpc, (h.sameBut _).trans hsame,
    nothingStored_of_readsTo h hstored⟩

/-- What is left when reads are done, Y gets a value of the index width, with n and z, and PC moves on (R273, R280). -/
theorem setYNZ_advance_of_readsTo (h : ReadsTo s s1) {w : Width} (r : BitVec w.bits) (n : Nat) :
    ((setYNZ r s1).advance n).y.toNat = r.toNat ∧ FlagsNZ r [.z, .n] s ((setYNZ r s1).advance n) ∧
      ((setYNZ r s1).advance n).pc = s.pc + BitVec.ofNat 16 n ∧
      SameBut [.p, .y] s ((setYNZ r s1).advance n) ∧ NothingStored s s1 ((setYNZ r s1).advance n) := by
  obtain ⟨hy, _, hpc, hsame, hstored⟩ := setYNZ_advance_frame r s1 n
  rw [h.pc] at hpc
  exact ⟨hy, flagsNZ_congr (flagsNZ_of_p rfl) h.flag fun _ => rfl, hpc, (h.sameBut _).trans hsame,
    nothingStored_of_readsTo h hstored⟩

section
variable {o : Operand}

/-- LDA ends as AND, EOR and ORA do, with the operand itself as the result (R271). -/
theorem loadA_eq (hr : o.refusal s = none) :
    loadA o s = logicResult s.mw (o.length s.mw) (o.read s.mw s).1 (o.read s.mw s).2 :=
  (withOperand_eq hr _).2

theorem loadX_eq (hr : o.refusal s = none) :
    loadX o s = .next ((setXNZ (o.read s.xw s).1 (o.read s.xw s).2).advance (o.length s.xw)) :=
  (withOperand_eq hr _).2

theorem loadY_eq (hr : o.refusal s = none) :
    loadY o s = .next ((setYNZ (o.read s.xw s).1 (o.read s.xw s).2).advance (o.length s.xw)) :=
  (withOperand_eq hr _).2

end

/-- The meaning and the length of a transfer into an index register: the destination's width decides which bits of the
source are taken (R279, R280, R285, R288, R290). -/
theorem indexTransferForm_exec {toX : Bool} (h : indexTransferForm s i = some (toX, v)) :
    exec i s = .next ((if toX then setXNZ (atWidth s.xw v) s else setYNZ (atWidth s.xw v) s).advance 1) ∧
      (encode s.widths i).length = 1 := by
  unfold indexTransferForm at h
  split at h <;> cases h <;> exact ⟨rfl, rfl⟩

/-- The meaning and the length of a transfer into the accumulator, at the width of its form (R283, R284, R286, R289). -/
theorem accTransferForm_exec {w : Width} (h : accTransferForm s i = some (w, v)) :
    exec i s = logicResult w 1 (atWidth w v) s ∧ (encode s.widths i).length = 1 := by
  unfold accTransferForm at h
  split at h <;> cases h
  case h_1 | h_2 => exact ⟨rfl, rfl⟩
  case h_3 | h_4 => rw [atWidth_w16]; exact ⟨rfl, rfl⟩

/-- The meaning and the length of TCS and TXS (R282, R287). -/
theorem stackPointerTransfers_exec (h : (i, v) ∈ [(Instr.tcs, s.c), (.txs, s.x)]) :
    exec i s = .next ((s.setS v).advance 1) ∧ (encode s.widths i).length = 1 := by
  simp only [List.mem_cons, List.not_mem_nil, or_false, Prod.mk.injEq] at h
  rcases h with ⟨rfl, rfl⟩ | ⟨rfl, rfl⟩ <;> exact ⟨rfl, rfl⟩

/-- A write of S: with e = 1 the high byte stays 0x01 (R282, R287; D28). -/
theorem setS_sp_toNat (s : State) (v : Word) :
    (s.setS v).sp.toNat = if s.e then 0x100 + v.toNat % 256 else v.toNat := by
  rw [State.setS_sp]
  split
  · rw [append_toNat, low_toNat]; rfl
  · rfl

theorem setS_sameBut (s : State) (v : Word) : SameBut [.sp] s (s.setS v) := by
  intro f hf
  cases f <;> simp at hf <;> rfl

end

/-- Settles O43: the read of the operand, then what is left when a value is taken into A, X or Y. -/
theorem loads : Obligations.Loads := by
  intro i o s hr
  refine ⟨fun hi => ?_, fun hi => ?_, fun hi => ?_⟩
  · obtain ⟨hexec, hlen⟩ := ldaForm_exec (s := s) hi
    rw [hexec, pcNext_eq hlen, loadA_eq hr]
    exact logicResult_frame (Operand.read_readsTo rfl) _ _ _
  · obtain ⟨hexec, hlen⟩ := ldxForm_exec (s := s) hi
    rw [hexec, pcNext_eq hlen, loadX_eq hr]
    exact ⟨_, rfl, setXNZ_advance_of_readsTo (Operand.read_readsTo rfl) _ _⟩
  · obtain ⟨hexec, hlen⟩ := ldyForm_exec (s := s) hi
    rw [hexec, pcNext_eq hlen, loadY_eq hr]
    exact ⟨_, rfl, setYNZ_advance_of_readsTo (Operand.read_readsTo rfl) _ _⟩

/-- Settles O45, by the destination: the value taken is the source at the index width. -/
theorem indexTransfers : Obligations.IndexTransfers := by
  intro i toX v s hi
  obtain ⟨hexec, hlen⟩ := indexTransferForm_exec hi
  rw [hexec, pcNext_eq hlen]
  cases toX
  case true =>
    obtain ⟨hx, hflags, hframe⟩ := setXNZ_advance_of_readsTo (.refl s) (atWidth s.xw v) 1
    obtain ⟨hn, hz, hrest⟩ := flagsNZ_atWidth hflags
    exact ⟨_, rfl, hx.trans (atWidth_toNat _ _), hn, hz, hrest, hframe⟩
  case false =>
    obtain ⟨hy, hflags, hframe⟩ := setYNZ_advance_of_readsTo (.refl s) (atWidth s.xw v) 1
    obtain ⟨hn, hz, hrest⟩ := flagsNZ_atWidth hflags
    exact ⟨_, rfl, hy.trans (atWidth_toNat _ _), hn, hz, hrest, hframe⟩

/-- Settles O46: the transfers into the accumulator end as the logic operations do; XBA and TCD, whose rules are their
own, change A and B, or D, beside the n and z of `setNZ`. -/
theorem otherTransfers : Obligations.OtherTransfers := by
  intro s
  refine ⟨fun i w v hi => ?_, ?_, ?_⟩
  · obtain ⟨hexec, hlen⟩ := accTransferForm_exec hi
    obtain ⟨t, ht, hacc, hflags, hframe⟩ := logicResult_frame (.refl s) w 1 (atWidth w v)
    rw [pcNext_eq hlen, ← atWidth_toNat, ← hacc]
    rw [← hacc] at hflags
    exact ⟨t, hexec.trans ht, rfl, hflags, hframe⟩
  · refine ⟨_, rfl, rfl, rfl, flagsNZ_of_p rfl, rfl, fun f hf => ?_, nothingStored_of_mem rfl rfl rfl⟩
    cases f <;> simp at hf <;> rfl
  · refine ⟨_, rfl, append_toNat s.b s.a, flagsNZ_of_p rfl, rfl, fun f hf => ?_, nothingStored_of_mem rfl rfl rfl⟩
    cases f <;> simp at hf <;> rfl

/-- Settles O47, from the write of S by the mode. -/
theorem stackPointerTransfers : Obligations.StackPointerTransfers := by
  intro i v s hi
  obtain ⟨hexec, hlen⟩ := stackPointerTransfers_exec hi
  exact ⟨_, hexec, setS_sp_toNat s v, (pcNext_eq hlen).symm, (setS_sameBut s v).trans (advance_sameBut _ _ 1),
    nothingStored_of_mem rfl rfl rfl⟩

end Sys2Proof.Machine

/-! The pulls of registers (R72, R310 to R313, R315, R316). -/

namespace Sys2Proof.Machine

open Sys2Proof.Claims

section
variable {s s1 t : State} {n : Nat}

theorem pullAt_pullsUp (w : Width) (s : State) : PullsUp w.bytes s (pullAt w s).2 := pullAt_state rfl

theorem PullsUp.flag (h : PullsUp n s t) (g : Flag) : g.of t = g.of s := by
  obtain ⟨l, k, rfl⟩ := h
  cases g <;> rfl

theorem PullsUp.pc (h : PullsUp n s t) : t.pc = s.pc := by obtain ⟨l, k, rfl⟩ := h; rfl

/-- What is left when pulls, then the write of a register with n and z and the advance of PC, are done (R311 to R316):
the frame of the write alone, seen from before the pulls. -/
theorem registerTaken_after_pulls (h : PullsUp n s s1) {m len : Nat} {r : BitVec m} {l : List Field} (hl : .sp ∉ l)
    (ht : FlagsNZ r [.z, .n] s1 t ∧ t.pc = s1.pc + BitVec.ofNat 16 len ∧ SameBut (.p :: l) s1 t ∧
      NothingStored s1 s1 t) :
    FlagsNZ r [.z, .n] s t ∧ t.sp = stackUp s.e s.sp n ∧ t.pc = s.pc + BitVec.ofNat 16 len ∧
      SameBut (.p :: .sp :: l) s t ∧ NothingStored s s1 t := by
  obtain ⟨hflags, hpc, hsame, hmem, hlog, hdraws⟩ := ht
  have hsp : t.sp = s1.sp := hsame .sp (by simpa using hl)
  exact ⟨flagsNZ_congr hflags h.flag fun _ => rfl, hsp.trans h.sp, hpc.trans (congrArg (· + _) h.pc),
    (h.sameBut.mono (by simp)).trans (hsame.mono (by simp)), fun a => (hmem a).trans (h.memSame a), hlog, hdraws⟩

/-- The write of DBR with n and z (R312). -/
theorem setDbrNZ_advance_frame (r : Byte) (s : State) (n : Nat) :
    let t := State.advance { s.setNZ r with dbr := r } n
    FlagsNZ r [.z, .n] s t ∧ t.pc = s.pc + BitVec.ofNat 16 n ∧ SameBut [.p, .dbr] s t ∧ NothingStored s s t := by
  refine ⟨flagsNZ_of_p rfl, rfl, fun f hf => ?_, nothingStored_of_mem rfl rfl rfl⟩
  cases f <;> simp at hf <;> rfl

/-- The write of D with n and z (R313). -/
theorem setDNZ_advance_frame (r : Word) (s : State) (n : Nat) :
    let t := State.advance { s.setNZ r with d := r } n
    FlagsNZ r [.z, .n] s t ∧ t.pc = s.pc + BitVec.ofNat 16 n ∧ SameBut [.p, .d] s t ∧ NothingStored s s t := by
  refine ⟨flagsNZ_of_p rfl, rfl, fun f hf => ?_, nothingStored_of_mem rfl rfl rfl⟩
  cases f <;> simp at hf <;> rfl

/-- PLA ends as the logic operations do, with the value pulled as the result (R311). -/
theorem execPla_eq (s : State) : execPla s = logicResult s.mw 1 (pullAt s.mw s).1 (pullAt s.mw s).2 := rfl

theorem execPlx_eq (s : State) :
    execPlx s = .next ((setXNZ (pullAt s.xw s).1 (pullAt s.xw s).2).advance 1) := rfl

theorem execPly_eq (s : State) :
    execPly s = .next ((setYNZ (pullAt s.xw s).1 (pullAt s.xw s).2).advance 1) := rfl

/-- PLB where it is not refused (R312). -/
theorem execPlb_eq (h : ¬ WrapsPage1 .plb s) :
    execPlb s = .next (State.advance { (pull8 s).2.setNZ (pull8 s).1 with dbr := (pull8 s).1 } 1) :=
  if_neg fun hw => h ((pullWraps_iff rfl rfl (by decide)).1 hw)

/-- PLD where it is not refused (R313). -/
theorem execPld_eq (h : ¬ WrapsPage1 .pld s) :
    execPld s = .next (State.advance { (pull16 s).2.setNZ (pull16 s).1 with d := (pull16 s).1 } 1) :=
  if_neg fun hw => h ((pullWraps_iff rfl rfl (by decide)).1 hw)

end

/-- Settles O49: the frame of each register's write, seen from before the pull (`registerTaken_after_pulls`). -/
theorem registerPulls : Obligations.RegisterPulls := by
  intro s
  have hm := pullAt_pullsUp s.mw s
  have hx := pullAt_pullsUp s.xw s
  refine ⟨?_, ?_, ?_, fun hw => ?_, fun hw => ?_⟩
  · obtain ⟨t, ht, hacc, hframe⟩ := logicResult_frame (.refl (pullAt s.mw s).2) s.mw 1 (pullAt s.mw s).1
    exact ⟨t, (execPla_eq s).trans ht, hacc, registerTaken_after_pulls hm (by cases s.mw <;> decide) hframe⟩
  · obtain ⟨hreg, hframe⟩ := setXNZ_advance_of_readsTo (.refl (pullAt s.xw s).2) (pullAt s.xw s).1 1
    exact ⟨_, execPlx_eq s, hreg, registerTaken_after_pulls hx (by decide) hframe⟩
  · obtain ⟨hreg, hframe⟩ := setYNZ_advance_of_readsTo (.refl (pullAt s.xw s).2) (pullAt s.xw s).1 1
    exact ⟨_, execPly_eq s, hreg, registerTaken_after_pulls hx (by decide) hframe⟩
  · exact ⟨_, execPlb_eq hw, rfl,
      registerTaken_after_pulls (pull8_pullsUp s) (by decide) (setDbrNZ_advance_frame _ _ 1)⟩
  · exact ⟨_, execPld_eq hw, rfl,
      registerTaken_after_pulls (pull16_pullsUp s) (by decide) (setDNZ_advance_frame _ _ 1)⟩

end Sys2Proof.Machine

/-! The pulls of the status byte (R314, R342). -/

namespace Sys2Proof.Machine

open Sys2Proof.Claims

section
variable {s t : State} {n : Nat}

/-- P from a pulled status byte: with e = 1 bits 5 and 4 are held at 1 (R314, R342; D29). -/
def restoredP (b : Byte) (e : Bool) : Byte := if e then (b &&& 0xCF#8) ||| 0x30#8 else b

/-- An index register after a pulled status byte: its high byte is cleared exactly when x is then 1 (R314, R342). -/
def restoredIndex (b : Byte) (e : Bool) (v : Word) : Word :=
  if (restoredP b e).getLsbD 4 then (low v).zeroExtend 16 else v

theorem restoreStatus_eq (b : Byte) (s : State) :
    restoreStatus b s =
      { s with p := restoredP b s.e, x := restoredIndex b s.e s.x, y := restoredIndex b s.e s.y } := by
  have hclear (u : State) : (if u.flagX then u.clearIndexHigh else u) =
      { u with
        x := if u.p.getLsbD 4 then (low u.x).zeroExtend 16 else u.x
        y := if u.p.getLsbD 4 then (low u.y).zeroExtend 16 else u.y } := by
    rw [State.flagX]
    cases u.p.getLsbD 4 <;> rfl
  exact hclear { s with p := restoredP b s.e }

theorem restoreStatus_sp (b : Byte) (s : State) : (restoreStatus b s).sp = s.sp := by rw [restoreStatus_eq]

theorem getLsbD_restoredP (b : Byte) (e : Bool) {j : Nat} (hj : j < 8) :
    (restoredP b e).getLsbD j = (b.getLsbD j || (e && (j == 4 || j == 5))) := by
  have hkept : ∀ j < 8, (0xCF#8).getLsbD j = !(j == 4 || j == 5) := by decide
  have hheld : ∀ j < 8, (0x30#8).getLsbD j = (j == 4 || j == 5) := by decide
  unfold restoredP
  cases e
  case false => simp
  case true =>
    rw [if_pos rfl, BitVec.getLsbD_or, BitVec.getLsbD_and, hkept j hj, hheld j hj, Bool.true_and]
    cases j == 4 || j == 5
    case false => rw [Bool.not_false, Bool.and_true]
    case true => rw [Bool.or_true, Bool.or_true]

theorem restoredIndex_toNat (b : Byte) (e : Bool) (v : Word) :
    (restoredIndex b e v).toNat = if (restoredP b e).getLsbD 4 then v.toNat % 256 else v.toNat := by
  unfold restoredIndex
  split
  · exact low_zeroExtend_toNat v
  · rfl

/-- A pull of one byte from `IO_REGIONS` gives a free value, and is recorded (R62, R72). -/
theorem pull8_io (h : s.isIo (fullAddr 0#8 (stackUp s.e s.sp 1)) = true) :
    pull8 s = (Config.ioValue s.draws,
      { s with
        sp := stackUp s.e s.sp 1
        draws := s.draws + 1
        ioLog := s.ioLog ++ [.read (fullAddr 0#8 (stackUp s.e s.sp 1)) (Config.ioValue s.draws)] }) :=
  if_pos h

/-- A pull neither looks at P, X and Y nor changes them. -/
theorem pull8_status (s : State) (p : Byte) (x y : Word) :
    pull8 { s with p := p, x := x, y := y } = ((pull8 s).1, { (pull8 s).2 with p := p, x := x, y := y }) := by
  cases h : s.isIo (fullAddr 0#8 (stackUp s.e s.sp 1))
  case false => rw [pull8_plain h]; exact pull8_plain (s := { s with p := p, x := x, y := y }) h
  case true => rw [pull8_io h]; exact pull8_io (s := { s with p := p, x := x, y := y }) h

/-- A pulled status byte can be taken into P after the pulls that follow it. -/
theorem pull8_restoreStatus (b : Byte) (s : State) :
    pull8 (restoreStatus b s) = ((pull8 s).1, restoreStatus b (pull8 s).2) := by
  obtain ⟨l, k, h⟩ := pull8_pullsUp s
  rw [restoreStatus_eq b s, pull8_status, h, restoreStatus_eq]

theorem pull16_restoreStatus (b : Byte) (s : State) :
    pull16 (restoreStatus b s) = ((pull16 s).1, restoreStatus b (pull16 s).2) := by
  simp only [pull16, pull8_restoreStatus]

/-- P, X and Y of `t` are what a status byte pulled makes of those of `s`. -/
structure Restored (b : Byte) (s t : State) : Prop where
  p : ∀ j < 8, t.p.getLsbD j = (b.getLsbD j || (s.e && (j == 4 || j == 5)))
  x : t.x.toNat = if t.flagX then s.x.toNat % 256 else s.x.toNat
  y : t.y.toNat = if t.flagX then s.y.toNat % 256 else s.y.toNat

theorem restoreStatus_restored (b : Byte) (s : State) : Restored b s (restoreStatus b s) := by
  rw [restoreStatus_eq]
  exact ⟨fun _ => getLsbD_restoredP b s.e, restoredIndex_toNat b s.e s.x, restoredIndex_toNat b s.e s.y⟩

/-- What pulls leave when a status byte is then taken into P: P, X and Y restored, S up, and nothing else changed. -/
theorem restoreStatus_after_pulls (h : PullsUp n s t) (b : Byte) :
    Restored b s (restoreStatus b t) ∧ (restoreStatus b t).sp = stackUp s.e s.sp n ∧
      (restoreStatus b t).pc = s.pc ∧ SameBut [.p, .x, .y, .sp] s (restoreStatus b t) ∧
      NothingStored s t (restoreStatus b t) := by
  have hrestored := restoreStatus_restored b t
  rw [restoreStatus_eq] at hrestored ⊢
  obtain ⟨l, k, rfl⟩ := h
  refine ⟨⟨hrestored.p, hrestored.x, hrestored.y⟩, rfl, rfl, fun f hf => ?_, nothingStored_of_mem rfl rfl rfl⟩
  cases f <;> simp at hf <;> rfl

theorem execPlp_eq (s : State) : execPlp s = .next ((restoreStatus (pull8 s).1 (pull8 s).2).advance 1) := rfl

/-- RTI with the status byte taken into P last (R342). -/
theorem execRti_eq (s : State) :
    let b := (pull8 s).1
    let target := pull16 (pull8 s).2
    let bank := pull8 target.2
    execRti s = .next (if s.e then (restoreStatus b target.2).jump target.1
      else (restoreStatus b bank.2).jumpLong bank.1 target.1) := by
  have he : (restoreStatus (pull8 s).1 (pull16 (pull8 s).2).2).e = s.e := by
    rw [restoreStatus_eq]
    exact ((pull8_pullsUp s).trans (pull16_pullsUp _)).sameBut .e (by decide)
  simp only [execRti, returnFromInterrupt, pull16_restoreStatus, pull8_restoreStatus, he]

end

/-- Settles O51, from what pulls leave when a status byte is taken into P (`restoreStatus_after_pulls`); RTI pulls PC,
and in native mode PBR, after the byte. -/
theorem statusPulls : Obligations.StatusPulls := by
  intro s b restored
  have h1 := pull8_pullsUp s
  have h3 : PullsUp 3 s (pull16 (pull8 s).2).2 := h1.trans (pull16_pullsUp _)
  have h4 : PullsUp 4 s (pull8 (pull16 (pull8 s).2).2).2 := h3.trans (pull8_pullsUp _)
  constructor
  · obtain ⟨⟨hp, hx, hy⟩, hsp, hpc, hsame, hstored⟩ := restoreStatus_after_pulls h1 b
    exact ⟨_, execPlp_eq s, ⟨hp, hx, hy⟩, hsp, congrArg (· + _) hpc, hsame.trans (advance_sameBut _ _ 1), hstored⟩
  · have hexec := execRti_eq s
    cases he : s.e
    case true =>
      obtain ⟨⟨hp, hx, hy⟩, hsp, -, hsame, hmem, hlog, -⟩ := restoreStatus_after_pulls h3 b
      simp only [he, if_true] at hexec hsp ⊢
      exact ⟨_, hexec, ⟨hp, hx, hy⟩, hsp, (hsame.trans (jump_sameBut _ _ _)).mono (by simp), hmem, rfl,
        hsame .pbr (by decide), hlog⟩
    case false =>
      obtain ⟨⟨hp, hx, hy⟩, hsp, -, hsame, hmem, hlog, -⟩ := restoreStatus_after_pulls h4 b
      simp only [he, Bool.false_eq_true, if_false] at hexec hsp ⊢
      exact ⟨_, hexec, ⟨hp, hx, hy⟩, hsp,
        (hsame.mono (by simp)).trans ((sameBut_jumpLong _ _ _).mono (by simp)), hmem, rfl, rfl, hlog⟩

end Sys2Proof.Machine

/-! The pulls that undo a push (R310, R327). -/

namespace Sys2Proof.Machine

open Sys2Proof.Claims

section
variable {s t u : State} {i : Instr} {l : List Byte} {w : Width} {n : Nat}

/-- What lies on the stack does not depend on the registers that a pull writes. -/
theorem Stacked.congr (h : Stacked l s t) (he : u.e = t.e) (hsp : u.sp = t.sp) (hcfg : u.cfg = t.cfg)
    (hmem : u.mem = t.mem) : Stacked l s u := by
  obtain ⟨hpage, he', hsp', hio, hbytes⟩ := h
  refine ⟨hpage, he.trans he', hsp.trans hsp', fun k hk => ?_, fun k hk => ?_⟩
  · rw [State.isIo, hcfg]
    exact hio k hk
  · rw [State.byteAt, hmem]
    exact hbytes k hk

/-- A push leaves its bytes on the stack, S below them, and no other field changed (R310). -/
theorem push_stacked (hs : s.Inv) (hp : PlainStack 2 s) (hi : pushForm s i = some l) (hw : ¬ WrapsPage1 i s) :
    ∃ u, exec i s = .next u ∧ Stacked l s u ∧ SameBut [.sp] s u := by
  obtain ⟨hexec, hlen⟩ := pushForm_exec hi hw
  have hpush := pushBytes_pushed hs.mem (.refl s) (Nat.le_trans hlen (by decide))
  have hstacked := hpush.stacked hs fun k hk => hp k (Nat.lt_of_lt_of_le hk hlen)
  exact ⟨_, hexec, hstacked.congr rfl rfl rfl rfl, hpush.same.trans (advance_sameBut _ _ _)⟩

/-- PHA, PHX, PHY, PHP and PHB are never refused. -/
theorem not_wrapsPage1_of_zero (hpush : newPushBytes i = 0) (hpull : newPullBytes i = 0) : ¬ WrapsPage1 i s := by
  simp [WrapsPage1, hpush, hpull]

/-- A pull at a width takes back what a push at that width pushed (R310). -/
theorem Stacked.pullAt {v : BitVec w.bits} (h : Stacked (pushOrder w v) s t) :
    pullAt w t = (v, { t with sp := s.sp }) := by
  cases w
  · exact (Stacked.pull8 (l := []) h).1
  · exact (Stacked.pull16 (l := []) h).1

/-- After `n` pushes that did not wrap in page 1, `n` pulls do not either (R74). -/
theorem Stacked.pullWraps_eq_false (h : Stacked l s t) (hl : l.length = n) (hlow : s.e = true → n ≤ (low s.sp).toNat) :
    pullWraps n t = false := by
  rw [pullWraps, h.e, h.sp, hl, stackDown_low, Bool.and_eq_false_imp, decide_eq_false_iff_not, BitVec.toNat_sub,
    BitVec.toNat_ofNat]
  intro he
  have := hlow he
  have := (low s.sp).isLt
  omega

theorem toNat_mod_of_high {v : Word} (h : high v = 0#8) : v.toNat % 256 = v.toNat := by
  have hhigh := congrArg BitVec.toNat h
  rw [high_toNat, BitVec.toNat_ofNat] at hhigh
  omega

/-- I4 of R34 for one index register: at 8 bits its value is that of its low byte, so that nothing is lost in a push at
the index width. -/
theorem zeroExtend_atWidth {x : Word} (h : w = .w8 → high x = 0#8) : (atWidth w x).zeroExtend 16 = x := by
  apply BitVec.eq_of_toNat_eq
  rw [zeroExtend_width_toNat, atWidth_toNat]
  cases w
  case w8 => exact toNat_mod_of_high (h rfl)
  case w16 => exact Nat.mod_eq_of_lt x.isLt

/-- C is the accumulator at the data width, with B where that is A alone (R21). -/
theorem c_eq_of_acc (w : Width) (hacc : t.acc w = s.acc w) (hb : w = .w8 → t.b = s.b) : t.c = s.c := by
  cases w
  case w8 => exact congrArg₂ (· ++ ·) (hb rfl) hacc
  case w16 => exact hacc

theorem setAcc_b_of_w8 (hw : w = .w8) (s : State) (v : BitVec w.bits) : (s.setAcc w v).b = s.b := by
  subst hw
  rfl

/-- The widths depend on the parameters, e, m and x alone (R31, R32). -/
theorem widths_of_sameBut_sp (h : SameBut [.sp] s u) : u.mw = s.mw ∧ u.xw = s.xw := by
  have hcfg : u.cfg = s.cfg := h .cfg (by decide)
  have he : u.e = s.e := h .e (by decide)
  have hp : u.p = s.p := h .p (by decide)
  simp [State.mw, State.xw, State.flagM, State.flagX, hcfg, he, hp]

/-- PLA takes the accumulator back from the stack, and at 8 bits leaves B alone (R311). -/
theorem pla_of_stacked {v : BitVec w.bits} (hw : t.mw = w) (h : Stacked (pushOrder w v) s t) :
    ∃ r, exec .pla t = .next r ∧ r.acc w = v ∧ (w = .w8 → r.b = t.b) ∧ r.sp = s.sp := by
  subst hw
  have hexec : exec .pla t = _ := execPla_eq t
  rw [h.pullAt] at hexec
  exact ⟨_, hexec, by simp, fun hw => setAcc_b_of_w8 hw _ _, by simp⟩

theorem plx_of_stacked {v : BitVec w.bits} (hw : t.xw = w) (h : Stacked (pushOrder w v) s t) :
    ∃ r, exec .plx t = .next r ∧ r.x = v.zeroExtend 16 ∧ r.sp = s.sp := by
  subst hw
  have hexec : exec .plx t = _ := execPlx_eq t
  rw [h.pullAt] at hexec
  exact ⟨_, hexec, rfl, rfl⟩

theorem ply_of_stacked {v : BitVec w.bits} (hw : t.xw = w) (h : Stacked (pushOrder w v) s t) :
    ∃ r, exec .ply t = .next r ∧ r.y = v.zeroExtend 16 ∧ r.sp = s.sp := by
  subst hw
  have hexec : exec .ply t = _ := execPly_eq t
  rw [h.pullAt] at hexec
  exact ⟨_, hexec, rfl, rfl⟩

/-- PLP takes the byte on the stack into P (R314). -/
theorem plp_of_stacked {b : Byte} (h : Stacked [b] s t) :
    ∃ r, exec .plp t = .next r ∧ Restored b t r ∧ r.sp = s.sp := by
  have hpull : pull8 t = (b, { t with sp := s.sp }) := Stacked.pullAt (w := .w8) h
  have hexec : exec .plp t = _ := execPlp_eq t
  rw [hpull] at hexec
  obtain ⟨hp, hx, hy⟩ := restoreStatus_restored b { t with sp := s.sp }
  exact ⟨_, hexec, ⟨hp, hx, hy⟩, restoreStatus_sp b _⟩

/-- PLB is not refused where the push before it did not wrap in page 1 (R74, R312). -/
theorem plb_of_stacked {b : Byte} (h : Stacked [b] s t) (hlow : s.e = true → 1 ≤ (low s.sp).toNat) :
    ∃ r, exec .plb t = .next r ∧ r.dbr = b ∧ r.sp = s.sp := by
  have hexec : exec .plb t = _ := execPlb_eq ((pullWraps_iff rfl rfl (by decide)).not.1
    (Bool.eq_false_iff.1 (h.pullWraps_eq_false rfl hlow)))
  rw [(Stacked.pull8 (l := []) h).1] at hexec
  exact ⟨_, hexec, rfl, rfl⟩

/-- PLD is not refused where the pushes before it did not wrap in page 1 (R74, R313). -/
theorem pld_of_stacked {v : Word} (h : Stacked [high v, low v] s t) (hlow : s.e = true → 2 ≤ (low s.sp).toNat) :
    ∃ r, exec .pld t = .next r ∧ r.d = v ∧ r.sp = s.sp := by
  have hexec : exec .pld t = _ := execPld_eq ((pullWraps_iff rfl rfl (by decide)).not.1
    (Bool.eq_false_iff.1 (h.pullWraps_eq_false rfl hlow)))
  rw [(Stacked.pull16 (l := []) h).1] at hexec
  exact ⟨_, hexec, rfl, rfl⟩

/-- The state's own P, pulled as a status byte, changes nothing, by I2 and I4 of R34. -/
theorem Restored.self (hs : s.Inv) (h : Restored s.p s t) : t.p = s.p ∧ t.x = s.x ∧ t.y = s.y := by
  obtain ⟨hp, hx, hy⟩ := h
  have hp' : t.p = s.p := byte_ext fun j hj => by
    rw [hp j hj]
    cases he : s.e
    case false => rw [Bool.false_and, Bool.or_false]
    case true =>
      obtain ⟨hm, hx⟩ := hs.i2 he
      rw [Bool.true_and, Bool.or_eq_left_iff_imp, Bool.or_eq_true, beq_iff_eq, beq_iff_eq]
      rintro (rfl | rfl)
      exacts [hx, hm]
  have hindex {v v' : Word} (hv : v'.toNat = if t.flagX then v.toNat % 256 else v.toNat)
      (hhigh : s.xw = .w8 → high v = 0#8) : v' = v := by
    refine BitVec.eq_of_toNat_eq (hv.trans ?_)
    split
    case isFalse => rfl
    case isTrue hflag =>
      rw [State.flagX, hp'] at hflag
      exact toNat_mod_of_high (hhigh (s.xw_eq_w8_iff.2 (.inr (.inr hflag))))
  exact ⟨hp', hindex hx fun h => (hs.i4 h).1, hindex hy fun h => (hs.i4 h).2⟩

end

section
variable {s : State}

theorem pla_after_pha (hs : s.Inv) (hp : PlainStack 2 s) (junk : Word) :
    ∃ u t, exec .pha s = .next u ∧ exec .pla (u.setAcc s.mw (atWidth s.mw junk)) = .next t ∧ t.c = s.c ∧
      t.sp = s.sp := by
  obtain ⟨u, hu, hstacked, hsame⟩ := push_stacked hs hp (i := .pha) rfl (not_wrapsPage1_of_zero rfl rfl)
  have hb : u.b = s.b := hsame .b (by decide)
  obtain ⟨t, ht, hacc, hb', hsp⟩ := pla_of_stacked (t := u.setAcc s.mw (atWidth s.mw junk))
    ((State.setAcc_mw _ _ _).trans (widths_of_sameBut_sp hsame).1)
    (hstacked.congr (by simp) (by simp) (by simp) (by simp))
  exact ⟨u, t, hu, ht, c_eq_of_acc s.mw hacc fun hw => (hb' hw).trans ((setAcc_b_of_w8 hw _ _).trans hb), hsp⟩

theorem plx_after_phx (hs : s.Inv) (hp : PlainStack 2 s) (junk : Word) :
    ∃ u t, exec .phx s = .next u ∧ exec .plx (u.setX junk) = .next t ∧ t.x = s.x ∧ t.sp = s.sp := by
  obtain ⟨u, hu, hstacked, hsame⟩ := push_stacked hs hp (i := .phx) rfl (not_wrapsPage1_of_zero rfl rfl)
  obtain ⟨t, ht, hx, hsp⟩ := plx_of_stacked (t := u.setX junk) (widths_of_sameBut_sp hsame).2
    (hstacked.congr rfl rfl rfl rfl)
  exact ⟨u, t, hu, ht, hx.trans (zeroExtend_atWidth fun hw => (hs.i4 hw).1), hsp⟩

theorem ply_after_phy (hs : s.Inv) (hp : PlainStack 2 s) (junk : Word) :
    ∃ u t, exec .phy s = .next u ∧ exec .ply (u.setY junk) = .next t ∧ t.y = s.y ∧ t.sp = s.sp := by
  obtain ⟨u, hu, hstacked, hsame⟩ := push_stacked hs hp (i := .phy) rfl (not_wrapsPage1_of_zero rfl rfl)
  obtain ⟨t, ht, hy, hsp⟩ := ply_of_stacked (t := u.setY junk) (widths_of_sameBut_sp hsame).2
    (hstacked.congr rfl rfl rfl rfl)
  exact ⟨u, t, hu, ht, hy.trans (zeroExtend_atWidth fun hw => (hs.i4 hw).2), hsp⟩

theorem plp_after_php (hs : s.Inv) (hp : PlainStack 2 s) :
    ∃ u t, exec .php s = .next u ∧ exec .plp u = .next t ∧ t.p = s.p ∧ t.x = s.x ∧ t.y = s.y ∧ t.sp = s.sp := by
  obtain ⟨u, hu, hstacked, hsame⟩ := push_stacked hs hp (i := .php) rfl (not_wrapsPage1_of_zero rfl rfl)
  have he : u.e = s.e := hsame .e (by decide)
  have hx : u.x = s.x := hsame .x (by decide)
  have hy : u.y = s.y := hsame .y (by decide)
  obtain ⟨t, ht, ⟨hp', hx', hy'⟩, hsp⟩ := plp_of_stacked hstacked
  rw [he] at hp'
  rw [hx] at hx'
  rw [hy] at hy'
  obtain ⟨hpt, hxt, hyt⟩ := Restored.self hs ⟨hp', hx', hy'⟩
  exact ⟨u, t, hu, ht, hpt, hxt, hyt, hsp⟩

theorem plb_after_phb (hs : s.Inv) (hp : PlainStack 2 s) (hlow : s.e = true → 1 ≤ (low s.sp).toNat) (junk : Byte) :
    ∃ u t, exec .phb s = .next u ∧ exec .plb { u with dbr := junk } = .next t ∧ t.dbr = s.dbr ∧ t.sp = s.sp := by
  obtain ⟨u, hu, hstacked, -⟩ := push_stacked hs hp (i := .phb) rfl (not_wrapsPage1_of_zero rfl rfl)
  obtain ⟨t, ht⟩ := plb_of_stacked (t := { u with dbr := junk }) (hstacked.congr rfl rfl rfl rfl) hlow
  exact ⟨u, t, hu, ht⟩

/-- PHD is not refused where with e = 1 the low byte of S is at least 2 (R74). -/
theorem not_wrapsPage1_phd (hlow : s.e = true → 2 ≤ (low s.sp).toNat) : ¬ WrapsPage1 .phd s := by
  rw [← pushWraps_iff (n := 2) rfl rfl, pushWraps, Bool.and_eq_true, decide_eq_true_eq]
  rintro ⟨he, hwraps⟩
  have := hlow he
  omega

theorem pld_after_phd (hs : s.Inv) (hp : PlainStack 2 s) (hlow : s.e = true → 2 ≤ (low s.sp).toNat) (junk : Word) :
    ∃ u t, exec .phd s = .next u ∧ exec .pld { u with d := junk } = .next t ∧ t.d = s.d ∧ t.sp = s.sp := by
  obtain ⟨u, hu, hstacked, -⟩ := push_stacked hs hp (i := .phd) rfl (not_wrapsPage1_phd hlow)
  obtain ⟨t, ht⟩ := pld_of_stacked (t := { u with d := junk }) (hstacked.congr rfl rfl rfl rfl) hlow
  exact ⟨u, t, hu, ht⟩

end

/-- Settles O58: the bytes pushed lie on the stack (`push_stacked`) whatever is done to the register meanwhile, so that
the pull takes them back, and S with them. -/
theorem pullUndoesPush : Obligations.PullUndoesPush := by
  intro s junk hs hp
  exact ⟨pla_after_pha hs hp junk, plx_after_phx hs hp junk, ply_after_phy hs hp junk, plp_after_php hs hp,
    fun hlow => plb_after_phb hs hp hlow (low junk), fun hlow => pld_after_phd hs hp hlow junk⟩

end Sys2Proof.Machine

/-! The entry to an interrupt handler and the return from it (R340 to R342, R384 to R386), and the instructions that
move PC alone or halt (R343, R364 to R366). -/

namespace Sys2Proof.Machine

open Sys2Proof.Claims

section
variable {s : State}

/-- The state in which an entry reads its vector: the bytes are pushed, i is set, d cleared, and PBR is 0 (R386). -/
def entryState (kind : InterruptKind) (ret : Word) (s : State) : State :=
  { interruptFlags (pushBytes (entryBytes kind ret s) s) with pbr := 0#8 }

/-- An entry goes from `entryState` to the word at its vector (R384, R386). -/
theorem interrupt_eq (kind : InterruptKind) (ret : Word) (s : State) :
    interrupt kind ret s =
      { (readVector (vectorOf kind s) (entryState kind ret s)).2 with
        pc := (readVector (vectorOf kind s) (entryState kind ret s)).1
        run := .running } := by
  rw [entryState, ← interruptPushes_eq]
  rfl

/-- The read of the vector (R384). -/
theorem entryState_readsTo (kind : InterruptKind) (ret : Word) (s : State) :
    ReadsTo (entryState kind ret s) (readVector (vectorOf kind s) (entryState kind ret s)).2 :=
  readVector_readsTo rfl

theorem entryBytes_length (kind : InterruptKind) (ret : Word) (s : State) :
    (entryBytes kind ret s).length = if s.e then 3 else 4 := by
  rw [entryBytes]
  cases s.e <;> rfl

theorem entryBytes_length_le (kind : InterruptKind) (ret : Word) (s : State) : (entryBytes kind ret s).length ≤ 4 := by
  rw [entryBytes_length]
  split <;> decide

/-- What the pushes of an entry leave (R71, R386). -/
theorem entryBytes_pushed (hm : Memory.wf s.mem) (kind : InterruptKind) (ret : Word) :
    Pushed (entryBytes kind ret s) s s (pushBytes (entryBytes kind ret s) s) :=
  pushBytes_pushed hm (.refl s) (Nat.le_trans (entryBytes_length_le kind ret s) (by decide))

/-- After its pushes an entry changes P and PBR alone, before it reads its vector (R386). -/
theorem entryState_of_pushed (kind : InterruptKind) (ret : Word) (s : State) :
    ∃ q, entryState kind ret s = { pushBytes (entryBytes kind ret s) s with p := q, pbr := 0#8 } := by
  obtain ⟨q, hq⟩ := interruptFlags_state (pushBytes (entryBytes kind ret s) s)
  exact ⟨q, by rw [entryState, hq]⟩

/-- The fields an entry changes; S goes down by the bytes pushed. -/
theorem interrupt_fields (kind : InterruptKind) (ret : Word) (s : State) :
    (interrupt kind ret s).sp = stackDown s.e s.sp (entryBytes kind ret s).length ∧ (interrupt kind ret s).pbr = 0#8 ∧
      (interrupt kind ret s).run = .running ∧ SameBut [.sp, .p, .pbr, .run] s (interrupt kind ret s) := by
  obtain ⟨m, l, k, q, target, h⟩ := interrupt_state kind ret s
  rw [h]
  refine ⟨rfl, rfl, rfl, fun f hf => ?_⟩
  cases f <;> simp at hf <;> rfl

/-- An entry changes memory by its pushes alone. -/
theorem interrupt_mem (kind : InterruptKind) (ret : Word) (s : State) :
    (interrupt kind ret s).mem = (pushBytes (entryBytes kind ret s) s).mem := by
  obtain ⟨q, hq⟩ := entryState_of_pushed kind ret s
  rw [interrupt_eq]
  exact (entryState_readsTo kind ret s).mem.trans (by rw [hq])

theorem pushBytes_flag (l : List Byte) (s : State) (g : Flag) : g.of (pushBytes l s) = g.of s := by
  obtain ⟨m, k, h⟩ := pushBytes_state l s
  rw [h]
  cases g <;> rfl

/-- The flags after an entry are those it sets after its pushes (R386). -/
theorem interrupt_flag (kind : InterruptKind) (ret : Word) (s : State) (g : Flag) :
    g.of (interrupt kind ret s) = g.of (interruptFlags (pushBytes (entryBytes kind ret s) s)) := by
  calc g.of (interrupt kind ret s)
    _ = g.of (readVector (vectorOf kind s) (entryState kind ret s)).2 := by rw [interrupt_eq]; cases g <;> rfl
    _ = g.of (entryState kind ret s) := (entryState_readsTo kind ret s).flag g
    _ = g.of (interruptFlags (pushBytes (entryBytes kind ret s) s)) := by cases g <;> rfl

/-- An entry sets i, clears d but on V6502, and leaves every other flag alone (R386). -/
theorem interrupt_flags (kind : InterruptKind) (ret : Word) (s : State) :
    (interrupt kind ret s).flagI = true ∧
      (interrupt kind ret s).flagD = (decide (s.cfg.variant = .v6502) && s.flagD) ∧
      FlagsBut [.i, .d] s (interrupt kind ret s) := by
  have hflag := interrupt_flag kind ret s
  have hpush := pushBytes_flag (entryBytes kind ret s) s
  have hcfg : (pushBytes (entryBytes kind ret s) s).cfg = s.cfg := by
    obtain ⟨m, k, h⟩ := pushBytes_state (entryBytes kind ret s) s
    rw [h]
  refine ⟨(hflag .i).trans (interruptFlags_flagI _), (hflag .d).trans ?_,
    flagsBut_congr (interruptFlags_flags _) hpush hflag⟩
  have hd := interruptFlags_flagD (pushBytes (entryBytes kind ret s) s)
  rw [hcfg, show (pushBytes (entryBytes kind ret s) s).flagD = s.flagD from hpush .d] at hd
  exact hd

/-- A vector outside `IO_REGIONS` is read from memory, and the read changes nothing (R384). -/
theorem readVector_plain {vec : Word} (h : vectorPlain vec s) : readVector vec s = (vectorWord vec s, s) :=
  read16_bank_plain h.1 h.2

/-- With its vector outside `IO_REGIONS` an entry goes to the word there, as its pushes leave memory, and reads nothing
else: the I/O record and the count of draws are those of the pushes (R384, R386). -/
theorem interrupt_of_vectorPlain {kind : InterruptKind} (ret : Word) (h : vectorPlain (vectorOf kind s) s) :
    (interrupt kind ret s).pc = vectorWord (vectorOf kind s) (interrupt kind ret s) ∧
      (interrupt kind ret s).ioLog = (pushBytes (entryBytes kind ret s) s).ioLog ∧
      (interrupt kind ret s).draws = (pushBytes (entryBytes kind ret s) s).draws := by
  obtain ⟨q, hq⟩ := entryState_of_pushed kind ret s
  obtain ⟨m, k, hpush⟩ := pushBytes_state (entryBytes kind ret s) s
  have hplain : vectorPlain (vectorOf kind s) (entryState kind ret s) := by
    rw [hq, hpush]
    exact h
  rw [interrupt_eq, readVector_plain hplain, hq]
  exact ⟨rfl, rfl, rfl⟩

/-- The entry sequence, by any kind of interrupt and with any return offset (R386). -/
theorem interrupt_entered (hm : Memory.wf s.mem) (kind : InterruptKind) (ret : Word) :
    Entered ret (statusByte kind s) (vectorOf kind s) s (interrupt kind ret s) := by
  obtain ⟨⟨⟨hbytes, hrest⟩, hlog, hdraws⟩, -, -, -⟩ := entryBytes_pushed hm kind ret
  obtain ⟨hsp, hpbr, hrun, hsame⟩ := interrupt_fields kind ret s
  obtain ⟨hi, hd, hflags⟩ := interrupt_flags kind ret s
  have hmem (a : Addr) : (interrupt kind ret s).byteAt a = (pushBytes (entryBytes kind ret s) s).byteAt a :=
    congrArg (Memory.read · a.toNat) (interrupt_mem kind ret s)
  refine ⟨⟨fun c hc => (hmem c.1).trans (hbytes c hc), fun a ha => (hmem a).trans (hrest a ha)⟩,
    hsp.trans (by rw [entryBytes_length]), hi, hd, hflags, hpbr, hrun, hsame.mono (by simp), fun hvec => ?_⟩
  obtain ⟨hpc, hlog', hdraws'⟩ := interrupt_of_vectorPlain ret hvec
  exact ⟨hpc, hlog'.trans hlog, hdraws'.trans hdraws⟩

/-- The status byte that BRK and COP push: bits 5 and 4 are 1 with e = 1 (R385; D30). -/
theorem statusByte_of_isSoftware {kind : InterruptKind} (h : kind.isSoftware = true) (s : State) :
    statusByte kind s = if s.e then (s.p &&& 0xCF#8) ||| 0x30#8 else s.p := by
  rw [statusByte, h, if_pos rfl, BitVec.or_assoc]
  rfl

theorem vectorOf_brk (s : State) : vectorOf .brk s = if s.e then 0xFFFE#16 else 0xFFE6#16 := by
  cases he : s.e <;> simp [vectorOf, he]

theorem vectorOf_cop (s : State) : vectorOf .cop s = if s.e then 0xFFF4#16 else 0xFFE4#16 := by
  cases he : s.e <;> simp [vectorOf, he]

/-- What BRK and COP leave, with their vector by mode (R340, R341). -/
theorem interrupt_entered_of_isSoftware (hm : Memory.wf s.mem) {kind : InterruptKind} (h : kind.isSoftware = true)
    {vec : Word} (hvec : vectorOf kind s = vec) (ret : Word) :
    (interrupt kind ret s).nmiPending = s.nmiPending ∧
      Entered ret (if s.e then (s.p &&& 0xCF#8) ||| 0x30#8 else s.p) vec s (interrupt kind ret s) := by
  obtain ⟨-, -, -, hsame⟩ := interrupt_fields kind ret s
  refine ⟨hsame .nmiPending (by decide), ?_⟩
  rw [← statusByte_of_isSoftware h, ← hvec]
  exact interrupt_entered hm kind ret

end

/-- Settles O52, from what every entry leaves (`interrupt_entered`). -/
theorem softwareInterrupts : Obligations.SoftwareInterrupts := by
  intro s sig hm status
  exact ⟨⟨_, rfl, interrupt_entered_of_isSoftware hm rfl (vectorOf_brk s) _⟩,
    ⟨_, rfl, interrupt_entered_of_isSoftware hm rfl (vectorOf_cop s) _⟩⟩

section
variable {s t : State}

/-- The bytes an entry pushes to plain memory lie on the stack of its handler (R386). -/
theorem interrupt_stacked (hs : s.Inv) (hp : PlainStack 4 s) (kind : InterruptKind) (ret : Word) :
    Stacked (entryBytes kind ret s) s (interrupt kind ret s) := by
  have hpush := entryBytes_pushed hs.mem kind ret
  obtain ⟨hsp, -, -, hsame⟩ := interrupt_fields kind ret s
  have hstacked := hpush.stacked hs fun k hk => hp k (Nat.lt_of_lt_of_le hk (entryBytes_length_le kind ret s))
  exact hstacked.congr ((hsame .e (by decide)).trans (hpush.same .e (by decide)).symm) (hsp.trans hpush.sp.symm)
    ((hsame .cfg (by decide)).trans (hpush.same .cfg (by decide)).symm) (interrupt_mem kind ret s)

/-- RTI in emulation mode, after the return offset and the status byte have been pushed (R342). -/
theorem execRti_of_stacked_emulation {w : Word} {b : Byte} (h : Stacked [high w, low w, b] s t) (he : s.e = true) :
    execRti t = .next ((restoreStatus b { t with sp := s.sp }).jump w) := by
  obtain ⟨hstatus, h'⟩ := Stacked.pull8 (l := [high w, low w]) h
  obtain ⟨htarget, -⟩ := Stacked.pull16 (l := []) h'
  rw [execRti_eq, if_pos (h.e.trans he), hstatus]
  simp only [htarget]
  rfl

/-- RTI in native mode, after PBR, the return offset and the status byte have been pushed (R342). -/
theorem execRti_of_stacked_native {k : Byte} {w : Word} {b : Byte} (h : Stacked [k, high w, low w, b] s t)
    (he : s.e = false) : execRti t = .next ((restoreStatus b { t with sp := s.sp }).jumpLong k w) := by
  obtain ⟨hstatus, h'⟩ := Stacked.pull8 (l := [k, high w, low w]) h
  obtain ⟨htarget, h''⟩ := Stacked.pull16 (l := [k]) h'
  obtain ⟨hbank, -⟩ := Stacked.pull8 (l := []) h''
  rw [execRti_eq, if_neg (Bool.eq_false_iff.1 (h.e.trans he)), hstatus]
  simp only [htarget, hbank]
  rfl

/-- The pushed status byte is P but for bits 5 and 4 with e = 1 (R385). -/
theorem getLsbD_statusByte (kind : InterruptKind) (s : State) {j : Nat} (hj : j < 8)
    (h : s.e = true → j ≠ 4 ∧ j ≠ 5) : (statusByte kind s).getLsbD j = s.p.getLsbD j := by
  have hkept : ∀ j < 8, j ≠ 4 ∧ j ≠ 5 → (0xCF#8).getLsbD j = true ∧ (0x20#8).getLsbD j = false ∧
      (if kind.isSoftware then 0x10#8 else 0x00#8).getLsbD j = false := by cases kind <;> decide
  rw [statusByte]
  cases he : s.e
  case false => rfl
  case true =>
    obtain ⟨hmask, h20, h10⟩ := hkept j hj (h he)
    rw [if_pos rfl, BitVec.getLsbD_or, BitVec.getLsbD_or, BitVec.getLsbD_and, hmask, h20, h10, Bool.and_true,
      Bool.or_false, Bool.or_false]

/-- A pull of the status byte that an entry pushed does what a pull of P itself would: with e = 1 the bits in which they
differ are ignored (R314, R342). -/
theorem restoredP_statusByte (kind : InterruptKind) (s : State) :
    restoredP (statusByte kind s) s.e = restoredP s.p s.e := by
  refine byte_ext fun j hj => ?_
  rw [getLsbD_restoredP _ _ hj, getLsbD_restoredP _ _ hj]
  by_cases h : s.e = true ∧ (j = 4 ∨ j = 5)
  case pos =>
    have hheld : (s.e && (j == 4 || j == 5)) = true := by simpa using h
    rw [hheld, Bool.or_true, Bool.or_true]
  case neg => rw [getLsbD_statusByte kind s hj fun he => not_or.1 fun hj => h ⟨he, hj⟩]

theorem restoredIndex_statusByte (kind : InterruptKind) (s : State) (v : Word) :
    restoredIndex (statusByte kind s) s.e v = restoredIndex s.p s.e v := by
  rw [restoredIndex, restoredP_statusByte, restoredIndex]

/-- The status byte that an entry pushed restores the interrupted P, and neither X nor Y loses anything, by I2 and I4 of
R34. -/
theorem restoreStatus_statusByte (hs : s.Inv) (h : SameBut [.p, .pbr, .run] s t) (kind : InterruptKind) :
    restoreStatus (statusByte kind s) t = { t with p := s.p } := by
  have he : t.e = s.e := h .e (by decide)
  have hx : t.x = s.x := h .x (by decide)
  have hy : t.y = s.y := h .y (by decide)
  have hself := Restored.self hs (restoreStatus_restored s.p s)
  rw [restoreStatus_eq] at hself ⊢
  obtain ⟨hp, hX, hY⟩ := hself
  have hp' : restoredP (statusByte kind s) t.e = s.p := by rw [he, restoredP_statusByte]; exact hp
  have hx' : restoredIndex (statusByte kind s) t.e t.x = t.x := by rw [he, hx, restoredIndex_statusByte]; exact hX
  have hy' : restoredIndex (statusByte kind s) t.e t.y = t.y := by rw [he, hy, restoredIndex_statusByte]; exact hY
  rw [hp', hx', hy']

/-- The eight flags are bits of P (R28). -/
theorem flag_congr_p (h : t.p = s.p) (g : Flag) : g.of t = g.of s := by
  have hbit (j : Nat) : t.p.getLsbD j = s.p.getLsbD j := by rw [h]
  cases g <;> exact hbit _

/-- RTI in a handler as its entry left it goes to the return offset, in the bank pushed, with S and P as they were
(R342, R386). -/
theorem execRti_of_entryBytes (hs : s.Inv) {kind : InterruptKind} {ret : Word}
    (hstacked : Stacked (entryBytes kind ret s) s t) (hpbr : t.pbr = 0#8) (hsame : SameBut [.sp, .p, .pbr, .run] s t) :
    execRti t = .next (State.jumpLong { t with sp := s.sp, p := s.p } (if s.e then 0#8 else s.pbr) ret) := by
  have hstatus := restoreStatus_statusByte hs (sameBut_restore_sp hsame) kind
  rw [entryBytes] at hstacked
  cases he : s.e
  case true =>
    rw [he] at hstacked
    rw [execRti_of_stacked_emulation hstacked he, hstatus, if_pos rfl, ← hpbr]
    rfl
  case false =>
    rw [he] at hstacked
    rw [execRti_of_stacked_native hstacked he, hstatus, if_neg Bool.false_ne_true]

/-- With S and P put back, what an entry and a long jump change of the fields is PBR and the run state (R386). -/
theorem sameBut_restore_sp_p (h : SameBut [.sp, .p, .pbr, .run] s t) (k : Byte) (a : Word) :
    SameBut [.pbr, .run, .p] s (State.jumpLong { t with sp := s.sp, p := s.p } k a) :=
  (((sameBut_restore_sp h).mono (by simp)).trans ((setP_sameBut _ s.p).mono (by simp))).trans
    ((sameBut_jumpLong _ k a).mono (by simp))

end

/-- Settles O56: RTI pulls what the entry pushed (`interrupt_stacked`), and the pushed status byte stands for P itself
(`restoreStatus_statusByte`). -/
theorem returnUndoesInterrupt : Obligations.ReturnUndoesInterrupt := by
  intro kind ret s hs hp
  have hstacked := interrupt_stacked hs hp kind ret
  obtain ⟨-, hpbr, hrun, hsame⟩ := interrupt_fields kind ret s
  generalize interrupt kind ret s = u at hstacked hpbr hrun hsame ⊢
  exact ⟨_, execRti_of_entryBytes hs hstacked hpbr hsame, rfl, rfl, hrun, sameBut_restore_sp_p hsame _ ret,
    fun g _ => flag_congr_p rfl g⟩

/-- Settles O55: each of the four is its equation in the model. -/
theorem noOperationsAndHalts : Obligations.NoOperationsAndHalts := by
  intro s k
  exact ⟨rfl, rfl, rfl, rfl⟩

end Sys2Proof.Machine

/-! What a step does that takes an input or ends a wait (R384 to R391, R395, R420, R421). -/

namespace Sys2Proof.Machine

open Sys2Proof.Claims

section
variable {s : State}

/-- In Stopped nothing but a reset is taken (R395). -/
theorem sample_stopped (hr : s.resetLine = false) (hrun : s.run = .stopped) : sample s = .stay := by
  simp [sample, hr, hrun]

/-- In Running and in Waiting the inputs are looked at in the order ABORT, NMI, IRQ (R390); what happens when none of
them is taken depends on the run state (R395). -/
theorem sample_of_ne_stopped (hr : s.resetLine = false) (hrun : s.run ≠ .stopped) :
    ∃ otherwise, sample s =
      if s.cfg.abortModelled && s.abortPending then .abort
      else if s.nmiPending then .nmi
      else if s.irqLine && !s.flagI then .irq
      else otherwise := by
  cases h : s.run
  case stopped => exact absurd h hrun
  case running | waiting =>
    simp only [sample, hr, h, Bool.false_eq_true, if_false]
    exact ⟨_, rfl⟩

/-- A modelled ABORT comes before NMI and IRQ (R389, R390). -/
theorem sample_abort (hr : s.resetLine = false) (hrun : s.run ≠ .stopped)
    (ha : (s.cfg.abortModelled && s.abortPending) = true) : sample s = .abort := by
  obtain ⟨_, h⟩ := sample_of_ne_stopped hr hrun
  rw [h, if_pos ha]

/-- An NMI comes before IRQ, whatever i is (R388, R390). -/
theorem sample_nmi (hr : s.resetLine = false) (hrun : s.run ≠ .stopped)
    (ha : (s.cfg.abortModelled && s.abortPending) = false) (hn : s.nmiPending = true) : sample s = .nmi := by
  obtain ⟨_, h⟩ := sample_of_ne_stopped hr hrun
  rw [h, ha, if_neg Bool.false_ne_true, if_pos hn]

/-- The IRQ line is looked at when no NMI is pending, and i must be clear (R387, R390). -/
theorem sample_irq (hr : s.resetLine = false) (hrun : s.run ≠ .stopped)
    (ha : (s.cfg.abortModelled && s.abortPending) = false) (hn : s.nmiPending = false) (hl : s.irqLine = true)
    (hi : s.flagI = false) : sample s = .irq := by
  obtain ⟨_, h⟩ := sample_of_ne_stopped hr hrun
  rw [h, ha, hn, hl, hi, if_neg Bool.false_ne_true, if_neg Bool.false_ne_true]
  rfl

/-- In Waiting, with no ABORT, no NMI and no IRQ that i lets through, the IRQ line alone decides whether the wait ends
(R395). -/
theorem sample_waiting (hr : s.resetLine = false) (hrun : s.run = .waiting)
    (ha : (s.cfg.abortModelled && s.abortPending) = false) (hn : s.nmiPending = false)
    (hi : (s.irqLine && !s.flagI) = false) : sample s = if s.irqLine then .wake else .stay := by
  simp only [sample, hr, hrun, ha, hn, hi, Bool.false_eq_true, if_false]

end

/-- Settles O10, from what the sampling decides. -/
theorem waitingAndStoppedSteps : Obligations.WaitingAndStoppedSteps := by
  intro s hr
  refine ⟨fun hrun => ?_, fun hrun ha => ?_, fun hrun ha hn => ⟨fun hl => ?_, fun hl hi => ?_⟩⟩
  · rw [step, sample_stopped hr hrun]
  · rw [step, sample_abort hr hrun ha]
  · have hs := sample_waiting hr hrun ha hn (by rw [hl]; rfl)
    rw [step, hs, hl]
    rfl
  · have hs := sample_waiting hr hrun ha hn (by rw [hl, hi]; rfl)
    rw [step, hs, hl]
    rfl

section
variable {s t : State}

/-- The status byte that a hardware interrupt pushes: with e = 1 bit 5 is 1 and bit 4, where b lies, is 0 (R385). -/
theorem statusByte_of_not_isSoftware {kind : InterruptKind} (h : kind.isSoftware = false) (s : State) :
    statusByte kind s = if s.e then (s.p &&& 0xCF#8) ||| 0x20#8 else s.p := by
  rw [statusByte, h, if_neg Bool.false_ne_true, BitVec.or_zero]

theorem vectorOf_nmi (s : State) : vectorOf .nmi s = if s.e then s.cfg.vecNmiE else s.cfg.vecNmiN := by
  cases he : s.e <;> simp [vectorOf, he]

theorem vectorOf_irq (s : State) : vectorOf .irq s = if s.e then 0xFFFE#16 else s.cfg.vecIrqN := by
  cases he : s.e <;> simp [vectorOf, he]

/-- What an entry leaves does not depend on the NMI latch of the state it is taken from (R386, R388). -/
theorem entered_of_nmiPending {ret : Word} {status : Byte} {vec : Word} {b : Bool}
    (h : Entered ret status vec { s with nmiPending := b } t) : Entered ret status vec s t := by
  obtain ⟨hmem, hsp, hi, hd, hflags, hpbr, hrun, hsame, hvec⟩ := h
  refine ⟨hmem, hsp, hi, hd, fun f hf => (hflags f hf).trans (by cases f <;> rfl), hpbr, hrun, fun f hf => ?_, hvec⟩
  have := hsame f hf
  cases f <;> simp at hf <;> exact this

/-- A hardware interrupt leaves the latch as it was and a status byte with b clear (R385, R386). -/
theorem interrupt_entered_of_not_isSoftware (hm : Memory.wf s.mem) {kind : InterruptKind}
    (h : kind.isSoftware = false) (ret : Word) :
    (interrupt kind ret s).nmiPending = s.nmiPending ∧
      Entered ret (if s.e then (s.p &&& 0xCF#8) ||| 0x20#8 else s.p) (vectorOf kind s) s (interrupt kind ret s) := by
  obtain ⟨-, -, -, hsame⟩ := interrupt_fields kind ret s
  refine ⟨hsame .nmiPending (by decide), ?_⟩
  rw [← statusByte_of_not_isSoftware h]
  exact interrupt_entered hm kind ret

end

/-- Settles O9: what the sampling decides, and what every entry leaves (`interrupt_entered`). -/
theorem hardwareInterruptSteps : Obligations.HardwareInterruptSteps := by
  intro s hr hrun ha hm
  refine ⟨fun hn => ⟨takeNmi s, ?_, ?_⟩, fun hn hl hi => ⟨takeIrq s, ?_, ?_⟩⟩
  · rw [step, sample_nmi hr hrun ha hn]
  · obtain ⟨hlatch, hentered⟩ :=
      interrupt_entered_of_not_isSoftware (s := { s with nmiPending := false }) hm (kind := .nmi) rfl s.pc
    rw [vectorOf_nmi] at hentered
    exact ⟨hlatch, entered_of_nmiPending hentered⟩
  · rw [step, sample_irq hr hrun ha hn hl hi]
  · obtain ⟨hlatch, hentered⟩ := interrupt_entered_of_not_isSoftware hm (kind := .irq) rfl s.pc
    rw [vectorOf_irq] at hentered
    exact ⟨hlatch.trans hn, hentered⟩

section
variable {s : State}

/-- With the reset vector outside `IO_REGIONS` the reset sequence goes to the word there, and reads nothing else (R391,
R421). -/
theorem resetSequence_of_vectorPlain (h : vectorPlain s.cfg.vecReset s) :
    (resetSequence s).pc = vectorWord s.cfg.vecReset s ∧ (resetSequence s).ioLog = s.ioLog := by
  rw [resetSequence, readVector_plain]
  · exact ⟨rfl, rfl⟩
  · exact h

end

/-- Settles O8: the fields that the reset sequence fixes (`resetSequence_state`), and its vector. -/
theorem resetStep : Obligations.ResetStep := by
  intro s hr
  refine ⟨resetSequence s, by rw [step, (sample_reset_iff s).2 hr], ?_⟩
  have hvec := resetSequence_of_vectorPlain (s := s)
  obtain ⟨hm, hx, hi⟩ := resetStatus_bits s.cfg.variant (s.draws + 5)
  obtain ⟨x, y, z, l, k, target, h⟩ := resetSequence_state s
  rw [h] at hvec ⊢
  refine ⟨rfl, hm, hx, hi, fun hv => resetStatus_flagD hv _, high_zeroExtend x, high_zeroExtend y, high_append _ z,
    rfl, rfl, rfl, rfl, rfl, rfl, fun _ => rfl, fun f hf => ?_, hvec⟩
  cases f <;> simp at hf <;> rfl

end Sys2Proof.Machine

/-! The block moves: one byte, and a whole block (R360 to R362). -/

namespace Sys2Proof.Machine

open Sys2Proof.Claims

/-- By how much a block move changes the index registers (R361, R362). -/
def moveDelta (up : Bool) : Int := if up then 1 else -1

/-- An index register after one byte of a block move, at the index width (R360). -/
def movedIndex (up : Bool) (w : Width) (v : Word) : Word :=
  (atWidth w v + BitVec.ofInt w.bits (moveDelta up)).zeroExtend 16

theorem moveDelta_ofInt_toNat (up : Bool) (w : Width) :
    (BitVec.ofInt w.bits (moveDelta up)).toNat = if up then 1 else 2 ^ w.bits - 1 := by
  cases up <;> cases w <;> rfl

/-- Going down by 1 is going up by the modulus less 1 (R361, R362). -/
theorem movedIndex_toNat (up : Bool) (w : Width) (v : Word) :
    (movedIndex up w v).toNat = (v.toNat + if up then 1 else 2 ^ w.bits - 1) % 2 ^ w.bits := by
  have hle : 2 ^ w.bits ≤ 2 ^ 16 := by cases w <;> decide
  have hlt := (atWidth w v + BitVec.ofInt w.bits (moveDelta up)).isLt
  rw [movedIndex, BitVec.toNat_setWidth, Nat.mod_eq_of_lt (Nat.lt_of_lt_of_le hlt hle), BitVec.toNat_add,
    moveDelta_ofInt_toNat, atWidth_toNat, Nat.mod_add_mod]

theorem stepped_zero (up : Bool) (v : Word) : stepped up v 0 = v := by
  cases up
  · exact BitVec.sub_zero v
  · exact BitVec.add_zero v

/-- At a 16-bit index width the index register is the next offset of the block. -/
theorem movedIndex_w16 (up : Bool) (v : Word) : movedIndex up .w16 v = stepped up v 1 := by
  refine BitVec.eq_of_toNat_eq ((movedIndex_toNat up .w16 v).trans ?_)
  cases up
  · simp only [stepped, Bool.false_eq_true, if_false]
    bv_omega
  · simp only [stepped, if_true]
    bv_omega

theorem stepped_succ (up : Bool) (v : Word) (k : Nat) : stepped up (stepped up v 1) k = stepped up v (k + 1) := by
  rw [Nat.add_comm k 1]
  cases up
  · simp only [stepped, Bool.false_eq_true, if_false, BitVec.ofNat_add, sub_sub]
  · simp only [stepped, if_true, BitVec.ofNat_add, BitVec.add_assoc]

theorem stepped_inj {up : Bool} {v : Word} {j k : Nat} (hj : j < 2 ^ 16) (hk : k < 2 ^ 16)
    (h : stepped up v j = stepped up v k) : j = k := by
  have hof : BitVec.ofNat 16 j = BitVec.ofNat 16 k := by
    cases up
    · exact (BitVec.sub_right_inj v).1 h
    · exact (BitVec.add_right_inj v).1 h
  have hnat := congrArg BitVec.toNat hof
  rwa [BitVec.toNat_ofNat, BitVec.toNat_ofNat, Nat.mod_eq_of_lt hj, Nat.mod_eq_of_lt hk] at hnat

/-- Byte `k` of a block that begins at an offset of a bank (R360). -/
def blockAddr (up : Bool) (bank : Byte) (v : Word) (k : Nat) : Addr := fullAddr bank (stepped up v k)

theorem blockAddr_zero (up : Bool) (bank : Byte) (v : Word) : blockAddr up bank v 0 = fullAddr bank v := by
  rw [blockAddr, stepped_zero]

theorem blockAddr_succ (up : Bool) (bank : Byte) (v : Word) (k : Nat) :
    blockAddr up bank (stepped up v 1) k = blockAddr up bank v (k + 1) := by
  rw [blockAddr, stepped_succ, blockAddr]

/-- The bytes of a block lie at different addresses. -/
theorem blockAddr_inj {up : Bool} {bank : Byte} {v : Word} {j k : Nat} (hj : j < 2 ^ 16) (hk : k < 2 ^ 16)
    (h : blockAddr up bank v j = blockAddr up bank v k) : j = k :=
  stepped_inj hj hk (fullAddr_inj h).2

/-- The operand bytes by the parameter MVN_OPERAND_ORDER (R360). -/
theorem moveBanks_eq (k1 k2 : Byte) (s : State) :
    moveBanks k1 k2 s =
      (if s.cfg.mvnOrder = .srcFirst then k1 else k2, if s.cfg.mvnOrder = .srcFirst then k2 else k1) := by
  rw [moveBanks]
  cases s.cfg.mvnOrder <;> rfl

/-- The meaning and the length of a block move (R361, R362). -/
theorem moveForm_exec {i : Instr} {up : Bool} {k1 k2 : Byte} {s : State} (h : moveForm i = some (up, k1, k2)) :
    exec i s = .next (moveByte (moveDelta up) k1 k2 s) ∧ (encode s.widths i).length = 3 := by
  cases i <;> cases h <;> exact ⟨rfl, rfl⟩

/-- What one byte of a block move leaves (R360). -/
structure MovedByte (up : Bool) (src dst : Byte) (s t : State) : Prop where
  stored : BytesStored [(fullAddr dst s.y, (readByte (fullAddr src s.x) s).1)] s (readByte (fullAddr src s.x) s).2 t
  wf : Memory.wf t.mem
  x : t.x = movedIndex up s.xw s.x
  y : t.y = movedIndex up s.xw s.y
  c : t.c = s.c - 1#16
  dbr : t.dbr = dst
  pc : t.pc = if s.c = 0#16 then s.pc + 3#16 else s.pc
  same : SameBut [.a, .b, .x, .y, .dbr] s t

theorem moveByte_movedByte {s : State} (hm : Memory.wf s.mem) (up : Bool) (k1 k2 : Byte) :
    MovedByte up (moveBanks k1 k2 s).1 (moveBanks k1 k2 s).2 s (moveByte (moveDelta up) k1 k2 s) := by
  obtain ⟨v, s1, hread, hr, m, l, hwrite, h⟩ := moveByte_cases (moveDelta up) k1 k2 s
  have hstored : BytesStored [(fullAddr (moveBanks k1 k2 s).2 s.y, v)] s s1 { s1 with mem := m, ioLog := l } :=
    hwrite ▸ writeBytes_stored_of_reads hm hr s1.p (by simp)
  have hwf : Memory.wf ({ s1 with mem := m, ioLog := l } : State).mem := by
    rw [← hwrite]
    exact writeByte_wf (hr.mem ▸ hm) _ v
  rw [h]
  refine ⟨?_, hwf, rfl, rfl, append_high_low _, rfl, rfl, fun f hf => ?_⟩
  · rw [hread]
    exact hstored
  · have hfield := hr.field f
    cases f <;> simp at hf <;> exact hfield

/-- Settles O53: a block move is one `moveByte`. -/
theorem blockMoveByte : Obligations.BlockMoveByte := by
  intro i up k1 k2 s hm hi src dst v d
  obtain ⟨hexec, hlen⟩ := moveForm_exec (s := s) hi
  have h := moveByte_movedByte hm up k1 k2
  rw [moveBanks_eq] at h
  refine ⟨_, hexec, h.stored, h.dbr, ?_, ?_, ?_, ?_, h.same⟩
  · rw [h.x, movedIndex_toNat]
  · rw [h.y, movedIndex_toNat]
  · rw [h.c, BitVec.toNat_sub, Nat.add_comm]
    rfl
  · have hzero : s.c = 0#16 ↔ s.c.toNat = 0 := by bv_omega
    rw [h.pc, pcNext_eq hlen]
    simp only [hzero]

section
variable {n : Nat} {up : Bool} {src dst : Byte} {s t u : State}

/-- A block of `n + 1` bytes is left to move: its source can be read, its destination stored to, and neither overlaps the
other. -/
structure Movable (n : Nat) (up : Bool) (src dst : Byte) (s : State) : Prop where
  wf : Memory.wf s.mem
  xw : s.xw = .w16
  count : s.c.toNat = n
  source : ∀ k ≤ n, s.isIo (blockAddr up src s.x k) = false
  dest : ∀ k ≤ n, Plain s (blockAddr up dst s.y k)
  apart : ∀ j ≤ n, ∀ k ≤ n, blockAddr up src s.x j ≠ blockAddr up dst s.y k

/-- A block of `n + 1` bytes has been moved. -/
structure MovedBlock (n : Nat) (up : Bool) (src dst : Byte) (s t : State) : Prop where
  c : t.c = 0xFFFF#16
  x : t.x = stepped up s.x (n + 1)
  y : t.y = stepped up s.y (n + 1)
  dbr : t.dbr = dst
  pc : t.pc = s.pc + 3#16
  copied : ∀ k ≤ n, t.byteAt (blockAddr up dst s.y k) = s.byteAt (blockAddr up src s.x k)
  rest : ∀ a, (∀ k ≤ n, a ≠ blockAddr up dst s.y k) → t.byteAt a = s.byteAt a
  same : SameBut [.a, .b, .x, .y, .dbr] s t

theorem Movable.lt (h : Movable n up src dst s) : n < 2 ^ 16 := h.count ▸ s.c.isLt

/-- The first byte of a block is copied, and no other byte of memory changes. -/
theorem MovedByte.byteAt (h : MovedByte up src dst s t) (hs : Movable n up src dst s) :
    t.byteAt (blockAddr up dst s.y 0) = s.byteAt (blockAddr up src s.x 0) ∧
      ∀ a, a ≠ blockAddr up dst s.y 0 → t.byteAt a = s.byteAt a := by
  have hsrc := hs.source 0 (Nat.zero_le n)
  obtain ⟨hio, hwritable⟩ := hs.dest 0 (Nat.zero_le n)
  rw [blockAddr_zero] at hsrc hio hwritable ⊢
  obtain ⟨⟨hbytes, hrest⟩, -, -⟩ := h.stored
  rw [readByte_plain hsrc] at hbytes
  have hbyte := hbytes _ List.mem_cons_self
  rw [hio, hwritable] at hbyte
  rw [blockAddr_zero]
  exact ⟨hbyte, fun a ha => hrest a (by simpa using ha)⟩

theorem MovedByte.xw (h : MovedByte up src dst s t) : t.xw = s.xw := by
  have hcfg : t.cfg = s.cfg := h.same .cfg (by decide)
  have he : t.e = s.e := h.same .e (by decide)
  have hp : t.p = s.p := h.same .p (by decide)
  rw [State.xw, State.flagX, hcfg, he, hp]
  rfl

/-- At a 16-bit index width, what remains of the blocks begins one byte on (R360). -/
theorem MovedByte.blockAddr_next (h : MovedByte up src dst s t) (hw : s.xw = .w16) (k : Nat) :
    blockAddr up src t.x k = blockAddr up src s.x (k + 1) ∧ blockAddr up dst t.y k = blockAddr up dst s.y (k + 1) := by
  rw [h.x, h.y, hw, movedIndex_w16, movedIndex_w16, blockAddr_succ, blockAddr_succ]
  exact ⟨rfl, rfl⟩

/-- After one byte the rest of the block is left to move. -/
theorem Movable.next (hs : Movable (n + 1) up src dst s) (h : MovedByte up src dst s t) : Movable n up src dst t := by
  have hcfg : t.cfg = s.cfg := h.same .cfg (by decide)
  have hio (a : Addr) : t.isIo a = s.isIo a := by rw [State.isIo, hcfg, State.isIo]
  have hwritable (a : Addr) : t.writable a = s.writable a := by rw [State.writable, hcfg, State.writable]
  have haddr := h.blockAddr_next hs.xw
  refine ⟨h.wf, h.xw.trans hs.xw, ?_, fun k hk => ?_, fun k hk => ?_, fun j hj k hk => ?_⟩
  · have hcount := hs.count
    rw [h.c]
    bv_omega
  · rw [hio, (haddr k).1]
    exact hs.source _ (Nat.succ_le_succ hk)
  · rw [Plain, hio, hwritable, (haddr k).2]
    exact hs.dest _ (Nat.succ_le_succ hk)
  · rw [(haddr j).1, (haddr k).2]
    exact hs.apart _ (Nat.succ_le_succ hj) _ (Nat.succ_le_succ hk)

/-- The last byte of a block, which C counts as 0, ends the move. -/
theorem MovedByte.movedBlock (h : MovedByte up src dst s t) (hs : Movable 0 up src dst s) :
    MovedBlock 0 up src dst s t := by
  obtain ⟨hcopied, hrest⟩ := h.byteAt hs
  have hc : s.c = 0#16 := BitVec.eq_of_toNat_eq hs.count
  refine ⟨by rw [h.c, hc]; rfl, ?_, ?_, h.dbr, by rw [h.pc, if_pos hc], fun k hk => ?_,
    fun a ha => hrest a (ha 0 (Nat.le_refl 0)), h.same⟩
  · rw [h.x, hs.xw, movedIndex_w16]
  · rw [h.y, hs.xw, movedIndex_w16]
  · obtain rfl := Nat.le_zero.1 hk
    exact hcopied

/-- One byte, then the rest of the block. The rest is read from where the first byte was not stored, and is not stored
where that byte was. -/
theorem MovedByte.cons (h : MovedByte up src dst s u) (hs : Movable (n + 1) up src dst s)
    (ht : MovedBlock n up src dst u t) : MovedBlock (n + 1) up src dst s t := by
  obtain ⟨hcopied, hrest⟩ := h.byteAt hs
  have haddr := h.blockAddr_next hs.xw
  have hlt := hs.lt
  have hc : s.c ≠ 0#16 := fun hc => by
    have hcount := hs.count
    rw [hc] at hcount
    exact absurd hcount (Nat.succ_ne_zero n).symm
  have hnot_in_rest (k : Nat) (hk : k ≤ n) : blockAddr up dst s.y 0 ≠ blockAddr up dst u.y k := by
    rw [(haddr k).2]
    exact fun he => absurd (blockAddr_inj (by decide) (by omega) he) (Nat.succ_ne_zero k).symm
  refine ⟨ht.c, ?_, ?_, ht.dbr, ?_, fun k hk => ?_, fun a ha => ?_, h.same.trans ht.same⟩
  · rw [ht.x, h.x, hs.xw, movedIndex_w16, stepped_succ]
  · rw [ht.y, h.y, hs.xw, movedIndex_w16, stepped_succ]
  · rw [ht.pc, h.pc, if_neg hc]
  · cases k with
    | zero => exact (ht.rest _ hnot_in_rest).trans hcopied
    | succ k =>
      have hk' := Nat.le_of_succ_le_succ hk
      calc t.byteAt (blockAddr up dst s.y (k + 1))
        _ = u.byteAt (blockAddr up src u.x k) := by rw [← (haddr k).2]; exact ht.copied k hk'
        _ = s.byteAt (blockAddr up src u.x k) := hrest _ (by
          rw [(haddr k).1]
          exact hs.apart _ hk _ (Nat.zero_le _))
        _ = s.byteAt (blockAddr up src s.x (k + 1)) := by rw [(haddr k).1]
  · have hrest_of_block (k : Nat) (hk : k ≤ n) : a ≠ blockAddr up dst u.y k := by
      rw [(haddr k).2]
      exact ha _ (Nat.succ_le_succ hk)
    exact (ht.rest a hrest_of_block).trans (hrest a (ha 0 (Nat.zero_le _)))

end

/-- A block move performed once for each byte moves the block (R360), by induction on the bytes that follow the first. -/
theorem performed_movedBlock {i : Instr} {up : Bool} {k1 k2 : Byte} (hi : moveForm i = some (up, k1, k2)) {n : Nat}
    {s : State} (hs : Movable n up (moveBanks k1 k2 s).1 (moveBanks k1 k2 s).2 s) :
    ∃ t, performed i (n + 1) s t ∧ MovedBlock n up (moveBanks k1 k2 s).1 (moveBanks k1 k2 s).2 s t := by
  induction n generalizing s with
  | zero =>
    exact ⟨_, ⟨_, (moveForm_exec hi).1, rfl⟩, (moveByte_movedByte hs.wf up k1 k2).movedBlock hs⟩
  | succ n ih =>
    have h := moveByte_movedByte hs.wf up k1 k2
    have hbanks : moveBanks k1 k2 (moveByte (moveDelta up) k1 k2 s) = moveBanks k1 k2 s := by
      have hcfg : (moveByte (moveDelta up) k1 k2 s).cfg = s.cfg := h.same .cfg (by decide)
      rw [moveBanks_eq, moveBanks_eq, hcfg]
    obtain ⟨t, hperformed, hmoved⟩ := ih (hbanks.symm ▸ hs.next h)
    rw [hbanks] at hmoved
    exact ⟨t, ⟨_, (moveForm_exec hi).1, hperformed⟩, h.cons hs hmoved⟩

/-- Settles O59, by `performed_movedBlock`. -/
theorem blockMoveCompletes : Obligations.BlockMoveCompletes := by
  intro i up k1 k2 s hi hm hw src dst hplain hapart
  have hs : Movable s.c.toNat up (moveBanks k1 k2 s).1 (moveBanks k1 k2 s).2 s := by
    rw [moveBanks_eq]
    exact ⟨hm, hw, rfl, fun k hk => (hplain k hk).1, fun k hk => (hplain k hk).2, hapart⟩
  obtain ⟨t, hperformed, h⟩ := performed_movedBlock hi hs
  rw [moveBanks_eq] at h
  exact ⟨t, hperformed, h.c, h.x, h.y, h.dbr, h.pc.trans (pcNext_eq (moveForm_exec hi).2).symm, h.copied, h.rest,
    h.same⟩

end Sys2Proof.Machine
